-- ==== Sys2Proof/Word.lean ====
section
/-! DEFINITION. The two word types of the machine (spec/10_state.md R20): data is 8 bits wide, addresses 16 bits. -/

namespace Sys2Proof

/-- 8 bits: a register, a memory cell, a device register. -/
abbrev Byte := BitVec 8

/-- 16 bits: an address, a register pair, `SP`, `PC`. -/
abbrev Word := BitVec 16

end Sys2Proof
end

