-- ==== Sys2Proof/Machine/Bits.lean ====
section
/-! DEFINITION. The bit-field and byte-order notation of spec/00_scope.md R11: `lo`, `hi`, concatenation,
`sext_16`, `zext_16`, single bits. -/

namespace Sys2Proof

/-- `w[7:0]`. -/
def lo (w : Word) : Byte := w.extractLsb' 0 8

/-- `w[15:8]`. -/
def hi (w : Word) : Byte := w.extractLsb' 8 8

/-- `h:l`, `h` the more significant byte (R11). -/
def hiLo (h l : Byte) : Word := h ++ l

/-- `sext_16(v)` (R11). -/
def sext16 (v : Byte) : Word := v.signExtend 16

/-- `zext_16(v)` (R11). -/
def zext16 (v : Byte) : Word := v.setWidth 16

/-- `v[i]` as a truth value (R11). -/
def bit {n : Nat} (v : BitVec n) (i : Nat) : Bool := v.getLsbD i

/-- The number 0 or 1 of a truth value, one bit wide. -/
def bit1 (b : Bool) : BitVec 1 := BitVec.ofBool b

/-- `v` with the low eight bits replaced, for the `freq[7:0]` writes (62_apu.md R456). -/
def withLow8 (v : BitVec 11) (b : Byte) : BitVec 11 := v.extractLsb' 8 3 ++ b

/-- `v` with the high three bits replaced, for the `freq[10:8]` writes (62_apu.md R457). -/
def withHigh3 (v : BitVec 11) (t : BitVec 3) : BitVec 11 := t ++ v.extractLsb' 0 8

end Sys2Proof
end

