-- ==== Sys2Proof/Syntax.lean ====
section
/-! DEFINITION. The abstract syntax of spec/30_encoding.md and spec/opcode_table.json: the operand names of
rule R12 (`R8`, `R16`, `R16S`, `CC`) and of rule R104 (the ALU and rotate operations), the one inductive `Instr`
with one constructor for each of the 512 rows of the table, and the functions that pick the constructor of a
family from its operands (`Instr.ldRegReg .b .c` is the row `LD_B_C`). -/

namespace Sys2Proof

/-- The 8-bit registers that an instruction can name (R12, R104: `R8` without `(HL)`). -/
inductive Reg8 where
  | b | c | d | e | h | l | a
deriving DecidableEq, Repr

/-- `R8[0..7]` (R12, R104): a register, or the memory byte at `HL`. -/
inductive Opd8 where
  | reg (r : Reg8)
  | memHL
deriving DecidableEq, Repr

/-- `R16[0..3]` (R12, R104). -/
inductive Reg16 where
  | bc | de | hl | sp
deriving DecidableEq, Repr

/-- `R16S[0..3]` (R12, R104), the pairs of `PUSH` and `POP`. -/
inductive StackReg where
  | bc | de | hl | af
deriving DecidableEq, Repr

/-- `CC[0..3]` (R12, R104). -/
inductive Cond where
  | nz | z | nc | c
deriving DecidableEq, Repr

/-- The ALU operations in the order of the field `y` (R104). -/
inductive AluOp where
  | add | adc | sub | sbc | and | xor | or | cp
deriving DecidableEq, Repr

/-- The rotate and shift operations in the order of the field `y` of the `CB` map (R104). -/
inductive RotOp where
  | rlc | rrc | rl | rr | sla | sra | swap | srl
deriving DecidableEq, Repr

/-- The 11 undefined primary opcodes (R111). -/
inductive IllegalOp where
  | d3 | db | dd | e3 | e4 | eb | ec | ed | f4 | fc | fd
deriving DecidableEq, Repr

/-- One constructor for each row of spec/opcode_table.json, the rows with an immediate first
(Lean's compiler wants constructors with arguments early), each group in the table's order. The name is the row's
`source_mnemonic` run together: `MemHL` is `(HL)`, `MemHLInc` is `(HL+)`, `Imm8` is `n`, `Imm16` is `nn`, `Rel` is
`e`. An argument is the row's immediate: `n` and `e` as the byte fetched, `nn` as `byte2:byte1` (R103). -/
inductive Instr where
  | ldBCImm16 (nn : Word)
  | ldBImm8 (n : Byte)
  | ldMemImm16SP (nn : Word)
  | ldCImm8 (n : Byte)
  | ldDEImm16 (nn : Word)
  | ldDImm8 (n : Byte)
  | jrRel (e : Byte)
  | ldEImm8 (n : Byte)
  | jrNZRel (e : Byte)
  | ldHLImm16 (nn : Word)
  | ldHImm8 (n : Byte)
  | jrZRel (e : Byte)
  | ldLImm8 (n : Byte)
  | jrNCRel (e : Byte)
  | ldSPImm16 (nn : Word)
  | ldMemHLImm8 (n : Byte)
  | jrCRel (e : Byte)
  | ldAImm8 (n : Byte)
  | jpNZImm16 (nn : Word)
  | jpImm16 (nn : Word)
  | callNZImm16 (nn : Word)
  | addAImm8 (n : Byte)
  | jpZImm16 (nn : Word)
  | callZImm16 (nn : Word)
  | callImm16 (nn : Word)
  | adcAImm8 (n : Byte)
  | jpNCImm16 (nn : Word)
  | callNCImm16 (nn : Word)
  | subImm8 (n : Byte)
  | jpCImm16 (nn : Word)
  | callCImm16 (nn : Word)
  | sbcAImm8 (n : Byte)
  | ldhMemImm8A (n : Byte)
  | andImm8 (n : Byte)
  | addSPRel (e : Byte)
  | ldMemImm16A (nn : Word)
  | xorImm8 (n : Byte)
  | ldhAMemImm8 (n : Byte)
  | orImm8 (n : Byte)
  | ldHLSPRel (e : Byte)
  | ldAMemImm16 (nn : Word)
  | cpImm8 (n : Byte)
  | nop
  | ldMemBCA
  | incBC
  | incB
  | decB
  | rlca
  | addHLBC
  | ldAMemBC
  | decBC
  | incC
  | decC
  | rrca
  | stop
  | ldMemDEA
  | incDE
  | incD
  | decD
  | rla
  | addHLDE
  | ldAMemDE
  | decDE
  | incE
  | decE
  | rra
  | ldMemHLIncA
  | incHL
  | incH
  | decH
  | daa
  | addHLHL
  | ldAMemHLInc
  | decHL
  | incL
  | decL
  | cpl
  | ldMemHLDecA
  | incSP
  | incMemHL
  | decMemHL
  | scf
  | addHLSP
  | ldAMemHLDec
  | decSP
  | incA
  | decA
  | ccf
  | ldBB
  | ldBC
  | ldBD
  | ldBE
  | ldBH
  | ldBL
  | ldBMemHL
  | ldBA
  | ldCB
  | ldCC
  | ldCD
  | ldCE
  | ldCH
  | ldCL
  | ldCMemHL
  | ldCA
  | ldDB
  | ldDC
  | ldDD
  | ldDE
  | ldDH
  | ldDL
  | ldDMemHL
  | ldDA
  | ldEB
  | ldEC
  | ldED
  | ldEE
  | ldEH
  | ldEL
  | ldEMemHL
  | ldEA
  | ldHB
  | ldHC
  | ldHD
  | ldHE
  | ldHH
  | ldHL
  | ldHMemHL
  | ldHA
  | ldLB
  | ldLC
  | ldLD
  | ldLE
  | ldLH
  | ldLL
  | ldLMemHL
  | ldLA
  | ldMemHLB
  | ldMemHLC
  | ldMemHLD
  | ldMemHLE
  | ldMemHLH
  | ldMemHLL
  | halt
  | ldMemHLA
  | ldAB
  | ldAC
  | ldAD
  | ldAE
  | ldAH
  | ldAL
  | ldAMemHL
  | ldAA
  | addAB
  | addAC
  | addAD
  | addAE
  | addAH
  | addAL
  | addAMemHL
  | addAA
  | adcAB
  | adcAC
  | adcAD
  | adcAE
  | adcAH
  | adcAL
  | adcAMemHL
  | adcAA
  | subB
  | subC
  | subD
  | subE
  | subH
  | subL
  | subMemHL
  | subA
  | sbcAB
  | sbcAC
  | sbcAD
  | sbcAE
  | sbcAH
  | sbcAL
  | sbcAMemHL
  | sbcAA
  | andB
  | andC
  | andD
  | andE
  | andH
  | andL
  | andMemHL
  | andA
  | xorB
  | xorC
  | xorD
  | xorE
  | xorH
  | xorL
  | xorMemHL
  | xorA
  | orB
  | orC
  | orD
  | orE
  | orH
  | orL
  | orMemHL
  | orA
  | cpB
  | cpC
  | cpD
  | cpE
  | cpH
  | cpL
  | cpMemHL
  | cpA
  | retNZ
  | popBC
  | pushBC
  | rst00
  | retZ
  | ret
  | prefixCB
  | rst08
  | retNC
  | popDE
  | illegalD3
  | pushDE
  | rst10
  | retC
  | reti
  | illegalDB
  | illegalDD
  | rst18
  | popHL
  | ldhMemCA
  | illegalE3
  | illegalE4
  | pushHL
  | rst20
  | jpHL
  | illegalEB
  | illegalEC
  | illegalED
  | rst28
  | popAF
  | ldhAMemC
  | di
  | illegalF4
  | pushAF
  | rst30
  | ldSPHL
  | ei
  | illegalFC
  | illegalFD
  | rst38
  | rlcB
  | rlcC
  | rlcD
  | rlcE
  | rlcH
  | rlcL
  | rlcMemHL
  | rlcA
  | rrcB
  | rrcC
  | rrcD
  | rrcE
  | rrcH
  | rrcL
  | rrcMemHL
  | rrcA
  | rlB
  | rlC
  | rlD
  | rlE
  | rlH
  | rlL
  | rlMemHL
  | rlA
  | rrB
  | rrC
  | rrD
  | rrE
  | rrH
  | rrL
  | rrMemHL
  | rrA
  | slaB
  | slaC
  | slaD
  | slaE
  | slaH
  | slaL
  | slaMemHL
  | slaA
  | sraB
  | sraC
  | sraD
  | sraE
  | sraH
  | sraL
  | sraMemHL
  | sraA
  | swapB
  | swapC
  | swapD
  | swapE
  | swapH
  | swapL
  | swapMemHL
  | swapA
  | srlB
  | srlC
  | srlD
  | srlE
  | srlH
  | srlL
  | srlMemHL
  | srlA
  | bit0B
  | bit0C
  | bit0D
  | bit0E
  | bit0H
  | bit0L
  | bit0MemHL
  | bit0A
  | bit1B
  | bit1C
  | bit1D
  | bit1E
  | bit1H
  | bit1L
  | bit1MemHL
  | bit1A
  | bit2B
  | bit2C
  | bit2D
  | bit2E
  | bit2H
  | bit2L
  | bit2MemHL
  | bit2A
  | bit3B
  | bit3C
  | bit3D
  | bit3E
  | bit3H
  | bit3L
  | bit3MemHL
  | bit3A
  | bit4B
  | bit4C
  | bit4D
  | bit4E
  | bit4H
  | bit4L
  | bit4MemHL
  | bit4A
  | bit5B
  | bit5C
  | bit5D
  | bit5E
  | bit5H
  | bit5L
  | bit5MemHL
  | bit5A
  | bit6B
  | bit6C
  | bit6D
  | bit6E
  | bit6H
  | bit6L
  | bit6MemHL
  | bit6A
  | bit7B
  | bit7C
  | bit7D
  | bit7E
  | bit7H
  | bit7L
  | bit7MemHL
  | bit7A
  | res0B
  | res0C
  | res0D
  | res0E
  | res0H
  | res0L
  | res0MemHL
  | res0A
  | res1B
  | res1C
  | res1D
  | res1E
  | res1H
  | res1L
  | res1MemHL
  | res1A
  | res2B
  | res2C
  | res2D
  | res2E
  | res2H
  | res2L
  | res2MemHL
  | res2A
  | res3B
  | res3C
  | res3D
  | res3E
  | res3H
  | res3L
  | res3MemHL
  | res3A
  | res4B
  | res4C
  | res4D
  | res4E
  | res4H
  | res4L
  | res4MemHL
  | res4A
  | res5B
  | res5C
  | res5D
  | res5E
  | res5H
  | res5L
  | res5MemHL
  | res5A
  | res6B
  | res6C
  | res6D
  | res6E
  | res6H
  | res6L
  | res6MemHL
  | res6A
  | res7B
  | res7C
  | res7D
  | res7E
  | res7H
  | res7L
  | res7MemHL
  | res7A
  | set0B
  | set0C
  | set0D
  | set0E
  | set0H
  | set0L
  | set0MemHL
  | set0A
  | set1B
  | set1C
  | set1D
  | set1E
  | set1H
  | set1L
  | set1MemHL
  | set1A
  | set2B
  | set2C
  | set2D
  | set2E
  | set2H
  | set2L
  | set2MemHL
  | set2A
  | set3B
  | set3C
  | set3D
  | set3E
  | set3H
  | set3L
  | set3MemHL
  | set3A
  | set4B
  | set4C
  | set4D
  | set4E
  | set4H
  | set4L
  | set4MemHL
  | set4A
  | set5B
  | set5C
  | set5D
  | set5E
  | set5H
  | set5L
  | set5MemHL
  | set5A
  | set6B
  | set6C
  | set6D
  | set6E
  | set6H
  | set6L
  | set6MemHL
  | set6A
  | set7B
  | set7C
  | set7D
  | set7E
  | set7H
  | set7L
  | set7MemHL
  | set7A
deriving DecidableEq, Repr

/-- Pick by register, in the order of `R8` without `(HL)`. -/
def Reg8.choose {α : Type} (r : Reg8) (xb xc xd xe xh xl xa : α) : α :=
  match r with
  | .b => xb | .c => xc | .d => xd | .e => xe | .h => xh | .l => xl | .a => xa

/-- Pick by operand, in the order of `R8` (R12). -/
def Opd8.choose {α : Type} (o : Opd8) (xb xc xd xe xh xl xm xa : α) : α :=
  match o with
  | .reg r => r.choose xb xc xd xe xh xl xa
  | .memHL => xm

/-- Pick by pair, in the order of `R16`. -/
def Reg16.choose {α : Type} (r : Reg16) (xbc xde xhl xsp : α) : α :=
  match r with
  | .bc => xbc | .de => xde | .hl => xhl | .sp => xsp

/-- Pick by stack pair, in the order of `R16S`. -/
def StackReg.choose {α : Type} (r : StackReg) (xbc xde xhl xaf : α) : α :=
  match r with
  | .bc => xbc | .de => xde | .hl => xhl | .af => xaf

/-- Pick by condition, in the order of `CC`. -/
def Cond.choose {α : Type} (k : Cond) (xnz xz xnc xc : α) : α :=
  match k with
  | .nz => xnz | .z => xz | .nc => xnc | .c => xc

/-- `LD r,r'` (R130), the row of destination `dst` and source `src`. -/
def Instr.ldRegReg (dst src : Reg8) : Instr :=
  match dst with
  | .b => src.choose .ldBB .ldBC .ldBD .ldBE .ldBH .ldBL .ldBA
  | .c => src.choose .ldCB .ldCC .ldCD .ldCE .ldCH .ldCL .ldCA
  | .d => src.choose .ldDB .ldDC .ldDD .ldDE .ldDH .ldDL .ldDA
  | .e => src.choose .ldEB .ldEC .ldED .ldEE .ldEH .ldEL .ldEA
  | .h => src.choose .ldHB .ldHC .ldHD .ldHE .ldHH .ldHL .ldHA
  | .l => src.choose .ldLB .ldLC .ldLD .ldLE .ldLH .ldLL .ldLA
  | .a => src.choose .ldAB .ldAC .ldAD .ldAE .ldAH .ldAL .ldAA

/-- `LD r,n` (R131). -/
def Instr.ldRegImm (r : Reg8) (n : Byte) : Instr :=
  r.choose (.ldBImm8 n) (.ldCImm8 n) (.ldDImm8 n) (.ldEImm8 n) (.ldHImm8 n) (.ldLImm8 n) (.ldAImm8 n)

/-- `LD r,(HL)` (R132). -/
def Instr.ldRegMem (r : Reg8) : Instr :=
  r.choose .ldBMemHL .ldCMemHL .ldDMemHL .ldEMemHL .ldHMemHL .ldLMemHL .ldAMemHL

/-- `LD (HL),r` (R133). -/
def Instr.ldMemReg (r : Reg8) : Instr :=
  r.choose .ldMemHLB .ldMemHLC .ldMemHLD .ldMemHLE .ldMemHLH .ldMemHLL .ldMemHLA

/-- `LD rr,nn` (R161). -/
def Instr.ldPairImm (r : Reg16) (nn : Word) : Instr :=
  r.choose (.ldBCImm16 nn) (.ldDEImm16 nn) (.ldHLImm16 nn) (.ldSPImm16 nn)

/-- `PUSH rr` and `PUSH AF` (R165, R166). -/
def Instr.push (r : StackReg) : Instr :=
  r.choose .pushBC .pushDE .pushHL .pushAF

/-- `POP rr` and `POP AF` (R168, R167). -/
def Instr.pop (r : StackReg) : Instr :=
  r.choose .popBC .popDE .popHL .popAF

/-- `INC r` and `INC (HL)` (R184, R185). -/
def Instr.inc8 (o : Opd8) : Instr :=
  o.choose .incB .incC .incD .incE .incH .incL .incMemHL .incA

/-- `DEC r` and `DEC (HL)` (R186, R187). -/
def Instr.dec8 (o : Opd8) : Instr :=
  o.choose .decB .decC .decD .decE .decH .decL .decMemHL .decA

/-- `INC rr` (R212). -/
def Instr.incPair (r : Reg16) : Instr :=
  r.choose .incBC .incDE .incHL .incSP

/-- `DEC rr` (R213). -/
def Instr.decPair (r : Reg16) : Instr :=
  r.choose .decBC .decDE .decHL .decSP

/-- `ADD HL,rr` (R211). -/
def Instr.addHLPair (r : Reg16) : Instr :=
  r.choose .addHLBC .addHLDE .addHLHL .addHLSP

/-- The ALU group `10 yyy zzz` (R107, R175 (a) and (b)). -/
def Instr.aluOpd (op : AluOp) (o : Opd8) : Instr :=
  match op with
  | .add => o.choose .addAB .addAC .addAD .addAE .addAH .addAL .addAMemHL .addAA
  | .adc => o.choose .adcAB .adcAC .adcAD .adcAE .adcAH .adcAL .adcAMemHL .adcAA
  | .sub => o.choose .subB .subC .subD .subE .subH .subL .subMemHL .subA
  | .sbc => o.choose .sbcAB .sbcAC .sbcAD .sbcAE .sbcAH .sbcAL .sbcAMemHL .sbcAA
  | .and => o.choose .andB .andC .andD .andE .andH .andL .andMemHL .andA
  | .xor => o.choose .xorB .xorC .xorD .xorE .xorH .xorL .xorMemHL .xorA
  | .or => o.choose .orB .orC .orD .orE .orH .orL .orMemHL .orA
  | .cp => o.choose .cpB .cpC .cpD .cpE .cpH .cpL .cpMemHL .cpA

/-- The ALU group `11 yyy 110` (R108, R175 (c)). -/
def Instr.aluImm (op : AluOp) (n : Byte) : Instr :=
  match op with
  | .add => .addAImm8 n
  | .adc => .adcAImm8 n
  | .sub => .subImm8 n
  | .sbc => .sbcAImm8 n
  | .and => .andImm8 n
  | .xor => .xorImm8 n
  | .or => .orImm8 n
  | .cp => .cpImm8 n

/-- The `CB` rotates and shifts (R110, R225 to R232). -/
def Instr.rot (op : RotOp) (o : Opd8) : Instr :=
  match op with
  | .rlc => o.choose .rlcB .rlcC .rlcD .rlcE .rlcH .rlcL .rlcMemHL .rlcA
  | .rrc => o.choose .rrcB .rrcC .rrcD .rrcE .rrcH .rrcL .rrcMemHL .rrcA
  | .rl => o.choose .rlB .rlC .rlD .rlE .rlH .rlL .rlMemHL .rlA
  | .rr => o.choose .rrB .rrC .rrD .rrE .rrH .rrL .rrMemHL .rrA
  | .sla => o.choose .slaB .slaC .slaD .slaE .slaH .slaL .slaMemHL .slaA
  | .sra => o.choose .sraB .sraC .sraD .sraE .sraH .sraL .sraMemHL .sraA
  | .swap => o.choose .swapB .swapC .swapD .swapE .swapH .swapL .swapMemHL .swapA
  | .srl => o.choose .srlB .srlC .srlD .srlE .srlH .srlL .srlMemHL .srlA

/-- `BIT y,x` (R110, R233). -/
def Instr.bit (y : Fin 8) (o : Opd8) : Instr :=
  match y with
  | 0 => o.choose .bit0B .bit0C .bit0D .bit0E .bit0H .bit0L .bit0MemHL .bit0A
  | 1 => o.choose .bit1B .bit1C .bit1D .bit1E .bit1H .bit1L .bit1MemHL .bit1A
  | 2 => o.choose .bit2B .bit2C .bit2D .bit2E .bit2H .bit2L .bit2MemHL .bit2A
  | 3 => o.choose .bit3B .bit3C .bit3D .bit3E .bit3H .bit3L .bit3MemHL .bit3A
  | 4 => o.choose .bit4B .bit4C .bit4D .bit4E .bit4H .bit4L .bit4MemHL .bit4A
  | 5 => o.choose .bit5B .bit5C .bit5D .bit5E .bit5H .bit5L .bit5MemHL .bit5A
  | 6 => o.choose .bit6B .bit6C .bit6D .bit6E .bit6H .bit6L .bit6MemHL .bit6A
  | 7 => o.choose .bit7B .bit7C .bit7D .bit7E .bit7H .bit7L .bit7MemHL .bit7A

/-- `RES y,x` (R110, R234). -/
def Instr.res (y : Fin 8) (o : Opd8) : Instr :=
  match y with
  | 0 => o.choose .res0B .res0C .res0D .res0E .res0H .res0L .res0MemHL .res0A
  | 1 => o.choose .res1B .res1C .res1D .res1E .res1H .res1L .res1MemHL .res1A
  | 2 => o.choose .res2B .res2C .res2D .res2E .res2H .res2L .res2MemHL .res2A
  | 3 => o.choose .res3B .res3C .res3D .res3E .res3H .res3L .res3MemHL .res3A
  | 4 => o.choose .res4B .res4C .res4D .res4E .res4H .res4L .res4MemHL .res4A
  | 5 => o.choose .res5B .res5C .res5D .res5E .res5H .res5L .res5MemHL .res5A
  | 6 => o.choose .res6B .res6C .res6D .res6E .res6H .res6L .res6MemHL .res6A
  | 7 => o.choose .res7B .res7C .res7D .res7E .res7H .res7L .res7MemHL .res7A

/-- `SET y,x` (R110, R235). -/
def Instr.set (y : Fin 8) (o : Opd8) : Instr :=
  match y with
  | 0 => o.choose .set0B .set0C .set0D .set0E .set0H .set0L .set0MemHL .set0A
  | 1 => o.choose .set1B .set1C .set1D .set1E .set1H .set1L .set1MemHL .set1A
  | 2 => o.choose .set2B .set2C .set2D .set2E .set2H .set2L .set2MemHL .set2A
  | 3 => o.choose .set3B .set3C .set3D .set3E .set3H .set3L .set3MemHL .set3A
  | 4 => o.choose .set4B .set4C .set4D .set4E .set4H .set4L .set4MemHL .set4A
  | 5 => o.choose .set5B .set5C .set5D .set5E .set5H .set5L .set5MemHL .set5A
  | 6 => o.choose .set6B .set6C .set6D .set6E .set6H .set6L .set6MemHL .set6A
  | 7 => o.choose .set7B .set7C .set7D .set7E .set7H .set7L .set7MemHL .set7A

/-- `JP cc,nn` (R252). -/
def Instr.jpCond (k : Cond) (nn : Word) : Instr :=
  k.choose (.jpNZImm16 nn) (.jpZImm16 nn) (.jpNCImm16 nn) (.jpCImm16 nn)

/-- `CALL cc,nn` (R257). -/
def Instr.callCond (k : Cond) (nn : Word) : Instr :=
  k.choose (.callNZImm16 nn) (.callZImm16 nn) (.callNCImm16 nn) (.callCImm16 nn)

/-- `JR cc,e` (R255). -/
def Instr.jrCond (k : Cond) (e : Byte) : Instr :=
  k.choose (.jrNZRel e) (.jrZRel e) (.jrNCRel e) (.jrCRel e)

/-- `RET cc` (R259). -/
def Instr.retCond (k : Cond) : Instr :=
  k.choose .retNZ .retZ .retNC .retC

/-- `RST y*8` (R262). -/
def Instr.rst (y : Fin 8) : Instr :=
  match y with
  | 0 => .rst00
  | 1 => .rst08
  | 2 => .rst10
  | 3 => .rst18
  | 4 => .rst20
  | 5 => .rst28
  | 6 => .rst30
  | 7 => .rst38

/-- The 11 undefined opcodes (R281). -/
def Instr.illegal (op : IllegalOp) : Instr :=
  match op with
  | .d3 => .illegalD3
  | .db => .illegalDB
  | .dd => .illegalDD
  | .e3 => .illegalE3
  | .e4 => .illegalE4
  | .eb => .illegalEB
  | .ec => .illegalEC
  | .ed => .illegalED
  | .f4 => .illegalF4
  | .fc => .illegalFC
  | .fd => .illegalFD

end Sys2Proof
end

