-- ==== Sys2Proof/WellFormed.lean ====
section
/-! DEFINITION. Which terms of `Instr` are whole instructions. Every immediate is a bit vector of the width its
format gives it (spec/30_encoding.md R102, R103: no immediate has illegal values), and every register, condition
and bit number is part of the constructor, so the one check left is that of R110 and 46_system_control.md R276:
the prefix byte `CB` is not an instruction by itself. -/

namespace Sys2Proof

/-- Every row but the prefix row is a whole instruction (R110, R276). -/
def wellFormed (i : Instr) : Bool :=
  match i with
  | .prefixCB => false
  | _ => true

/-- `wellFormed` as a proposition. -/
abbrev WellFormed (i : Instr) : Prop := wellFormed i = true

end Sys2Proof
end

