-- ==== Sys2Proof/Decode.lean ====
section
/-! DEFINITION. The decoder of spec/30_encoding.md, by the fields `x y z p q` of R101 and the maps R105 to R108
(primary) and R110 (`CB`), and after it the encoder, one byte pattern a row as spec/opcode_table.json gives it. -/

namespace Sys2Proof

/-- `x = op[7:6]` (R101). -/
def fieldX (op : Byte) : Nat := op.toNat / 64

/-- `y = op[5:3]` (R101). -/
def fieldY (op : Byte) : Fin 8 := Fin.ofNat 8 (op.toNat / 8)

/-- `z = op[2:0]` (R101). -/
def fieldZ (op : Byte) : Fin 8 := Fin.ofNat 8 op.toNat

/-- `p = y[2:1]` (R101). -/
def fieldP (y : Fin 8) : Fin 4 := Fin.ofNat 4 (y.val / 2)

/-- `R8[f]` (R104). -/
def opd8Of (f : Fin 8) : Opd8 :=
  match f with
  | 0 => .reg .b | 1 => .reg .c | 2 => .reg .d | 3 => .reg .e
  | 4 => .reg .h | 5 => .reg .l | 6 => .memHL | 7 => .reg .a

/-- `R16[p]` (R104). -/
def reg16Of (p : Fin 4) : Reg16 :=
  match p with
  | 0 => .bc | 1 => .de | 2 => .hl | 3 => .sp

/-- `R16S[p]` (R104). -/
def stackRegOf (p : Fin 4) : StackReg :=
  match p with
  | 0 => .bc | 1 => .de | 2 => .hl | 3 => .af

/-- `CC[f]` (R104), `f` the low two bits of the field. -/
def condOf (f : Fin 4) : Cond :=
  match f with
  | 0 => .nz | 1 => .z | 2 => .nc | 3 => .c

/-- The ALU operation of the field `y` (R104). -/
def aluOpOf (y : Fin 8) : AluOp :=
  match y with
  | 0 => .add | 1 => .adc | 2 => .sub | 3 => .sbc | 4 => .and | 5 => .xor | 6 => .or | 7 => .cp

/-- The rotate or shift of the field `y` (R104). -/
def rotOpOf (y : Fin 8) : RotOp :=
  match y with
  | 0 => .rlc | 1 => .rrc | 2 => .rl | 3 => .rr | 4 => .sla | 5 => .sra | 6 => .swap | 7 => .srl

/-- The low two bits of `y`, which number a condition. -/
def condField (y : Fin 8) : Cond := condOf (Fin.ofNat 4 y.val)

/-- `LD R8[y],n`, with `LD (HL),n` at `y = 6` (R105, `z = 6`). -/
def ldOpdImm (o : Opd8) (n : Byte) : Instr :=
  match o with
  | .reg r => .ldRegImm r n
  | .memHL => .ldMemHLImm8 n

/-- The quadrant `x = 1`: `LD R8[y],R8[z]`, and `HALT` at `y = z = 6` (R106). -/
def ldOpdOpd (o1 o2 : Opd8) : Instr :=
  match o1, o2 with
  | .reg dst, .reg r => .ldRegReg dst r
  | .reg dst, .memHL => .ldRegMem dst
  | .memHL, .reg r => .ldMemReg r
  | .memHL, .memHL => .halt

/-- The quadrant `x = 0` (R105). -/
def decodeX0 (y z : Fin 8) (n : Byte) (nn : Word) : Instr :=
  match z with
  | 0 =>
    match y with
    | 0 => .nop
    | 1 => .ldMemImm16SP nn
    | 2 => .stop
    | 3 => .jrRel n
    | 4 => .jrCond .nz n
    | 5 => .jrCond .z n
    | 6 => .jrCond .nc n
    | 7 => .jrCond .c n
  | 1 => if y.val % 2 = 0 then .ldPairImm (reg16Of (fieldP y)) nn else .addHLPair (reg16Of (fieldP y))
  | 2 =>
    match y with
    | 0 => .ldMemBCA
    | 1 => .ldAMemBC
    | 2 => .ldMemDEA
    | 3 => .ldAMemDE
    | 4 => .ldMemHLIncA
    | 5 => .ldAMemHLInc
    | 6 => .ldMemHLDecA
    | 7 => .ldAMemHLDec
  | 3 => if y.val % 2 = 0 then .incPair (reg16Of (fieldP y)) else .decPair (reg16Of (fieldP y))
  | 4 => .inc8 (opd8Of y)
  | 5 => .dec8 (opd8Of y)
  | 6 => ldOpdImm (opd8Of y) n
  | 7 =>
    match y with
    | 0 => .rlca
    | 1 => .rrca
    | 2 => .rla
    | 3 => .rra
    | 4 => .daa
    | 5 => .cpl
    | 6 => .scf
    | 7 => .ccf

/-- The `CB` map (R110), by the fields of the second byte. -/
def decodeCB (op2 : Byte) : Instr :=
  match fieldX op2 with
  | 0 => .rot (rotOpOf (fieldY op2)) (opd8Of (fieldZ op2))
  | 1 => .bit (fieldY op2) (opd8Of (fieldZ op2))
  | 2 => .res (fieldY op2) (opd8Of (fieldZ op2))
  | _ => .set (fieldY op2) (opd8Of (fieldZ op2))

/-- The quadrant `x = 3` (R108); byte `CB` takes the row that the second byte selects (R110, R113). -/
def decodeX3 (y z : Fin 8) (n : Byte) (nn : Word) : Instr :=
  match z with
  | 0 =>
    match y with
    | 0 => .retCond .nz
    | 1 => .retCond .z
    | 2 => .retCond .nc
    | 3 => .retCond .c
    | 4 => .ldhMemImm8A n
    | 5 => .addSPRel n
    | 6 => .ldhAMemImm8 n
    | 7 => .ldHLSPRel n
  | 1 =>
    match y with
    | 0 => .pop .bc
    | 1 => .ret
    | 2 => .pop .de
    | 3 => .reti
    | 4 => .pop .hl
    | 5 => .jpHL
    | 6 => .pop .af
    | 7 => .ldSPHL
  | 2 =>
    match y with
    | 0 => .jpCond .nz nn
    | 1 => .jpCond .z nn
    | 2 => .jpCond .nc nn
    | 3 => .jpCond .c nn
    | 4 => .ldhMemCA
    | 5 => .ldMemImm16A nn
    | 6 => .ldhAMemC
    | 7 => .ldAMemImm16 nn
  | 3 =>
    match y with
    | 0 => .jpImm16 nn
    | 1 => decodeCB n
    | 2 => .illegal .d3
    | 3 => .illegal .db
    | 4 => .illegal .e3
    | 5 => .illegal .eb
    | 6 => .di
    | 7 => .ei
  | 4 =>
    match y with
    | 0 => .callCond .nz nn
    | 1 => .callCond .z nn
    | 2 => .callCond .nc nn
    | 3 => .callCond .c nn
    | 4 => .illegal .e4
    | 5 => .illegal .ec
    | 6 => .illegal .f4
    | 7 => .illegal .fc
  | 5 =>
    match y with
    | 0 => .push .bc
    | 1 => .callImm16 nn
    | 2 => .push .de
    | 3 => .illegal .dd
    | 4 => .push .hl
    | 5 => .illegal .ed
    | 6 => .push .af
    | 7 => .illegal .fd
  | 6 => .aluImm (aluOpOf y) n
  | 7 => .rst y

/-- The instruction whose bytes are `b0 b1 b2`; bytes past its length are not looked at (R100, R103). -/
def decodeOp (b0 b1 b2 : Byte) : Instr :=
  match fieldX b0 with
  | 0 => decodeX0 (fieldY b0) (fieldZ b0) b1 (hiLo b2 b1)
  | 1 => ldOpdOpd (opd8Of (fieldY b0)) (opd8Of (fieldZ b0))
  | 2 => .aluOpd (aluOpOf (fieldY b0)) (opd8Of (fieldZ b0))
  | _ => decodeX3 (fieldY b0) (fieldZ b0) b1 (hiLo b2 b1)

/-- The primary opcodes of format `OP_N16` (R102). -/
def opcodes16 : List Nat :=
  [0x01, 0x08, 0x11, 0x21, 0x31, 0xC2, 0xC3, 0xC4, 0xCA, 0xCC, 0xCD, 0xD2, 0xD4, 0xDA, 0xDC, 0xEA, 0xFA]

/-- The primary opcodes of format `OP_N8` or `OP_E8` (R102). -/
def opcodes8 : List Nat :=
  [0x06, 0x0E, 0x16, 0x18, 0x1E, 0x20, 0x26, 0x28, 0x2E, 0x30, 0x36, 0x38, 0x3E,
   0xC6, 0xCE, 0xD6, 0xDE, 0xE0, 0xE6, 0xE8, 0xEE, 0xF0, 0xF6, 0xF8, 0xFE]

/-- The length in bytes, a function of byte 0 alone (R100). -/
def lengthOf (b0 : Byte) : Nat :=
  if opcodes16.contains b0.toNat then 3
  else if opcodes8.contains b0.toNat then 2
  else if b0 = 0xCB then 2
  else 1

/-- Why a list of bytes gives no instruction: no encoding is refused (R7, R112), so only missing bytes are. -/
inductive DecodeError where
  /-- There is no byte 0. -/
  | empty
  /-- The operand bytes of opcode `op` are missing. -/
  | truncated (op : Byte)
deriving DecidableEq, Repr

/-- The instruction at the head of a list of bytes and its length. The byte `CB` alone is the prefix row, the one
row of the table whose instruction goes on past the row's own length (R102 `PREFIX`, R113; log entry 11). -/
def decode (bs : List Byte) : Except DecodeError (Instr × Nat) :=
  match bs with
  | [] => .error .empty
  | b0 :: rest =>
    if lengthOf b0 ≤ rest.length + 1 then .ok (decodeOp b0 (rest.getD 0 0) (rest.getD 1 0), lengthOf b0)
    else if b0 = 0xCB then .ok (.prefixCB, 1)
    else .error (.truncated b0)

/-- How many bytes spec/opcode_table.json gives the row of byte 0 (`"length"`): that of R100, but 1 for the prefix
row. -/
def tableLength (b0 : Byte) : Nat := if b0 = 0xCB then 1 else lengthOf b0

/-- The bytes of a table word of `nbits` bits, first byte first. A two-byte `CB_OP` row is numbered `byte0:byte1`
(R113: "the 16-bit number `byte0:byte1` is compared"), so byte 0 is its bits 15 to 8; every other word has byte 0
in its bits 7 to 0 (log entry 10). -/
def tableBytes (nbits w : Nat) : List Byte :=
  if nbits = 16 ∧ w / 256 = 0xCB then [0xCB, BitVec.ofNat 8 w]
  else if nbits = 8 then [BitVec.ofNat 8 w]
  else if nbits = 16 then [BitVec.ofNat 8 w, BitVec.ofNat 8 (w / 256)]
  else [BitVec.ofNat 8 w, BitVec.ofNat 8 (w / 256), BitVec.ofNat 8 (w / 65536)]

/-- The instruction the decoder reads from the table word `w` of `nbits` bits, with zero bytes after it up to the
length the table gives the row. -/
def decodeTableWord (nbits w : Nat) : Option Instr :=
  let bs := tableBytes nbits w
  let padded := bs ++ List.replicate (tableLength (bs.getD 0 0) - bs.length) 0
  match decode padded with
  | .ok r => some r.1
  | .error _ => none

/-- The bytes of an instruction, byte 0 first, as spec/opcode_table.json gives each row (`"match"`, R113), with
the immediate after them (R102, R103: `nn` low byte first). -/
def encode (i : Instr) : List Byte :=
  match i with
  | .nop => [0x00]
  | .ldBCImm16 nn => [0x01, lo nn, hi nn]
  | .ldMemBCA => [0x02]
  | .incBC => [0x03]
  | .incB => [0x04]
  | .decB => [0x05]
  | .ldBImm8 n => [0x06, n]
  | .rlca => [0x07]
  | .ldMemImm16SP nn => [0x08, lo nn, hi nn]
  | .addHLBC => [0x09]
  | .ldAMemBC => [0x0A]
  | .decBC => [0x0B]
  | .incC => [0x0C]
  | .decC => [0x0D]
  | .ldCImm8 n => [0x0E, n]
  | .rrca => [0x0F]
  | .stop => [0x10]
  | .ldDEImm16 nn => [0x11, lo nn, hi nn]
  | .ldMemDEA => [0x12]
  | .incDE => [0x13]
  | .incD => [0x14]
  | .decD => [0x15]
  | .ldDImm8 n => [0x16, n]
  | .rla => [0x17]
  | .jrRel e => [0x18, e]
  | .addHLDE => [0x19]
  | .ldAMemDE => [0x1A]
  | .decDE => [0x1B]
  | .incE => [0x1C]
  | .decE => [0x1D]
  | .ldEImm8 n => [0x1E, n]
  | .rra => [0x1F]
  | .jrNZRel e => [0x20, e]
  | .ldHLImm16 nn => [0x21, lo nn, hi nn]
  | .ldMemHLIncA => [0x22]
  | .incHL => [0x23]
  | .incH => [0x24]
  | .decH => [0x25]
  | .ldHImm8 n => [0x26, n]
  | .daa => [0x27]
  | .jrZRel e => [0x28, e]
  | .addHLHL => [0x29]
  | .ldAMemHLInc => [0x2A]
  | .decHL => [0x2B]
  | .incL => [0x2C]
  | .decL => [0x2D]
  | .ldLImm8 n => [0x2E, n]
  | .cpl => [0x2F]
  | .jrNCRel e => [0x30, e]
  | .ldSPImm16 nn => [0x31, lo nn, hi nn]
  | .ldMemHLDecA => [0x32]
  | .incSP => [0x33]
  | .incMemHL => [0x34]
  | .decMemHL => [0x35]
  | .ldMemHLImm8 n => [0x36, n]
  | .scf => [0x37]
  | .jrCRel e => [0x38, e]
  | .addHLSP => [0x39]
  | .ldAMemHLDec => [0x3A]
  | .decSP => [0x3B]
  | .incA => [0x3C]
  | .decA => [0x3D]
  | .ldAImm8 n => [0x3E, n]
  | .ccf => [0x3F]
  | .ldBB => [0x40]
  | .ldBC => [0x41]
  | .ldBD => [0x42]
  | .ldBE => [0x43]
  | .ldBH => [0x44]
  | .ldBL => [0x45]
  | .ldBMemHL => [0x46]
  | .ldBA => [0x47]
  | .ldCB => [0x48]
  | .ldCC => [0x49]
  | .ldCD => [0x4A]
  | .ldCE => [0x4B]
  | .ldCH => [0x4C]
  | .ldCL => [0x4D]
  | .ldCMemHL => [0x4E]
  | .ldCA => [0x4F]
  | .ldDB => [0x50]
  | .ldDC => [0x51]
  | .ldDD => [0x52]
  | .ldDE => [0x53]
  | .ldDH => [0x54]
  | .ldDL => [0x55]
  | .ldDMemHL => [0x56]
  | .ldDA => [0x57]
  | .ldEB => [0x58]
  | .ldEC => [0x59]
  | .ldED => [0x5A]
  | .ldEE => [0x5B]
  | .ldEH => [0x5C]
  | .ldEL => [0x5D]
  | .ldEMemHL => [0x5E]
  | .ldEA => [0x5F]
  | .ldHB => [0x60]
  | .ldHC => [0x61]
  | .ldHD => [0x62]
  | .ldHE => [0x63]
  | .ldHH => [0x64]
  | .ldHL => [0x65]
  | .ldHMemHL => [0x66]
  | .ldHA => [0x67]
  | .ldLB => [0x68]
  | .ldLC => [0x69]
  | .ldLD => [0x6A]
  | .ldLE => [0x6B]
  | .ldLH => [0x6C]
  | .ldLL => [0x6D]
  | .ldLMemHL => [0x6E]
  | .ldLA => [0x6F]
  | .ldMemHLB => [0x70]
  | .ldMemHLC => [0x71]
  | .ldMemHLD => [0x72]
  | .ldMemHLE => [0x73]
  | .ldMemHLH => [0x74]
  | .ldMemHLL => [0x75]
  | .halt => [0x76]
  | .ldMemHLA => [0x77]
  | .ldAB => [0x78]
  | .ldAC => [0x79]
  | .ldAD => [0x7A]
  | .ldAE => [0x7B]
  | .ldAH => [0x7C]
  | .ldAL => [0x7D]
  | .ldAMemHL => [0x7E]
  | .ldAA => [0x7F]
  | .addAB => [0x80]
  | .addAC => [0x81]
  | .addAD => [0x82]
  | .addAE => [0x83]
  | .addAH => [0x84]
  | .addAL => [0x85]
  | .addAMemHL => [0x86]
  | .addAA => [0x87]
  | .adcAB => [0x88]
  | .adcAC => [0x89]
  | .adcAD => [0x8A]
  | .adcAE => [0x8B]
  | .adcAH => [0x8C]
  | .adcAL => [0x8D]
  | .adcAMemHL => [0x8E]
  | .adcAA => [0x8F]
  | .subB => [0x90]
  | .subC => [0x91]
  | .subD => [0x92]
  | .subE => [0x93]
  | .subH => [0x94]
  | .subL => [0x95]
  | .subMemHL => [0x96]
  | .subA => [0x97]
  | .sbcAB => [0x98]
  | .sbcAC => [0x99]
  | .sbcAD => [0x9A]
  | .sbcAE => [0x9B]
  | .sbcAH => [0x9C]
  | .sbcAL => [0x9D]
  | .sbcAMemHL => [0x9E]
  | .sbcAA => [0x9F]
  | .andB => [0xA0]
  | .andC => [0xA1]
  | .andD => [0xA2]
  | .andE => [0xA3]
  | .andH => [0xA4]
  | .andL => [0xA5]
  | .andMemHL => [0xA6]
  | .andA => [0xA7]
  | .xorB => [0xA8]
  | .xorC => [0xA9]
  | .xorD => [0xAA]
  | .xorE => [0xAB]
  | .xorH => [0xAC]
  | .xorL => [0xAD]
  | .xorMemHL => [0xAE]
  | .xorA => [0xAF]
  | .orB => [0xB0]
  | .orC => [0xB1]
  | .orD => [0xB2]
  | .orE => [0xB3]
  | .orH => [0xB4]
  | .orL => [0xB5]
  | .orMemHL => [0xB6]
  | .orA => [0xB7]
  | .cpB => [0xB8]
  | .cpC => [0xB9]
  | .cpD => [0xBA]
  | .cpE => [0xBB]
  | .cpH => [0xBC]
  | .cpL => [0xBD]
  | .cpMemHL => [0xBE]
  | .cpA => [0xBF]
  | .retNZ => [0xC0]
  | .popBC => [0xC1]
  | .jpNZImm16 nn => [0xC2, lo nn, hi nn]
  | .jpImm16 nn => [0xC3, lo nn, hi nn]
  | .callNZImm16 nn => [0xC4, lo nn, hi nn]
  | .pushBC => [0xC5]
  | .addAImm8 n => [0xC6, n]
  | .rst00 => [0xC7]
  | .retZ => [0xC8]
  | .ret => [0xC9]
  | .jpZImm16 nn => [0xCA, lo nn, hi nn]
  | .prefixCB => [0xCB]
  | .callZImm16 nn => [0xCC, lo nn, hi nn]
  | .callImm16 nn => [0xCD, lo nn, hi nn]
  | .adcAImm8 n => [0xCE, n]
  | .rst08 => [0xCF]
  | .retNC => [0xD0]
  | .popDE => [0xD1]
  | .jpNCImm16 nn => [0xD2, lo nn, hi nn]
  | .illegalD3 => [0xD3]
  | .callNCImm16 nn => [0xD4, lo nn, hi nn]
  | .pushDE => [0xD5]
  | .subImm8 n => [0xD6, n]
  | .rst10 => [0xD7]
  | .retC => [0xD8]
  | .reti => [0xD9]
  | .jpCImm16 nn => [0xDA, lo nn, hi nn]
  | .illegalDB => [0xDB]
  | .callCImm16 nn => [0xDC, lo nn, hi nn]
  | .illegalDD => [0xDD]
  | .sbcAImm8 n => [0xDE, n]
  | .rst18 => [0xDF]
  | .ldhMemImm8A n => [0xE0, n]
  | .popHL => [0xE1]
  | .ldhMemCA => [0xE2]
  | .illegalE3 => [0xE3]
  | .illegalE4 => [0xE4]
  | .pushHL => [0xE5]
  | .andImm8 n => [0xE6, n]
  | .rst20 => [0xE7]
  | .addSPRel e => [0xE8, e]
  | .jpHL => [0xE9]
  | .ldMemImm16A nn => [0xEA, lo nn, hi nn]
  | .illegalEB => [0xEB]
  | .illegalEC => [0xEC]
  | .illegalED => [0xED]
  | .xorImm8 n => [0xEE, n]
  | .rst28 => [0xEF]
  | .ldhAMemImm8 n => [0xF0, n]
  | .popAF => [0xF1]
  | .ldhAMemC => [0xF2]
  | .di => [0xF3]
  | .illegalF4 => [0xF4]
  | .pushAF => [0xF5]
  | .orImm8 n => [0xF6, n]
  | .rst30 => [0xF7]
  | .ldHLSPRel e => [0xF8, e]
  | .ldSPHL => [0xF9]
  | .ldAMemImm16 nn => [0xFA, lo nn, hi nn]
  | .ei => [0xFB]
  | .illegalFC => [0xFC]
  | .illegalFD => [0xFD]
  | .cpImm8 n => [0xFE, n]
  | .rst38 => [0xFF]
  | .rlcB => [0xCB, 0x00]
  | .rlcC => [0xCB, 0x01]
  | .rlcD => [0xCB, 0x02]
  | .rlcE => [0xCB, 0x03]
  | .rlcH => [0xCB, 0x04]
  | .rlcL => [0xCB, 0x05]
  | .rlcMemHL => [0xCB, 0x06]
  | .rlcA => [0xCB, 0x07]
  | .rrcB => [0xCB, 0x08]
  | .rrcC => [0xCB, 0x09]
  | .rrcD => [0xCB, 0x0A]
  | .rrcE => [0xCB, 0x0B]
  | .rrcH => [0xCB, 0x0C]
  | .rrcL => [0xCB, 0x0D]
  | .rrcMemHL => [0xCB, 0x0E]
  | .rrcA => [0xCB, 0x0F]
  | .rlB => [0xCB, 0x10]
  | .rlC => [0xCB, 0x11]
  | .rlD => [0xCB, 0x12]
  | .rlE => [0xCB, 0x13]
  | .rlH => [0xCB, 0x14]
  | .rlL => [0xCB, 0x15]
  | .rlMemHL => [0xCB, 0x16]
  | .rlA => [0xCB, 0x17]
  | .rrB => [0xCB, 0x18]
  | .rrC => [0xCB, 0x19]
  | .rrD => [0xCB, 0x1A]
  | .rrE => [0xCB, 0x1B]
  | .rrH => [0xCB, 0x1C]
  | .rrL => [0xCB, 0x1D]
  | .rrMemHL => [0xCB, 0x1E]
  | .rrA => [0xCB, 0x1F]
  | .slaB => [0xCB, 0x20]
  | .slaC => [0xCB, 0x21]
  | .slaD => [0xCB, 0x22]
  | .slaE => [0xCB, 0x23]
  | .slaH => [0xCB, 0x24]
  | .slaL => [0xCB, 0x25]
  | .slaMemHL => [0xCB, 0x26]
  | .slaA => [0xCB, 0x27]
  | .sraB => [0xCB, 0x28]
  | .sraC => [0xCB, 0x29]
  | .sraD => [0xCB, 0x2A]
  | .sraE => [0xCB, 0x2B]
  | .sraH => [0xCB, 0x2C]
  | .sraL => [0xCB, 0x2D]
  | .sraMemHL => [0xCB, 0x2E]
  | .sraA => [0xCB, 0x2F]
  | .swapB => [0xCB, 0x30]
  | .swapC => [0xCB, 0x31]
  | .swapD => [0xCB, 0x32]
  | .swapE => [0xCB, 0x33]
  | .swapH => [0xCB, 0x34]
  | .swapL => [0xCB, 0x35]
  | .swapMemHL => [0xCB, 0x36]
  | .swapA => [0xCB, 0x37]
  | .srlB => [0xCB, 0x38]
  | .srlC => [0xCB, 0x39]
  | .srlD => [0xCB, 0x3A]
  | .srlE => [0xCB, 0x3B]
  | .srlH => [0xCB, 0x3C]
  | .srlL => [0xCB, 0x3D]
  | .srlMemHL => [0xCB, 0x3E]
  | .srlA => [0xCB, 0x3F]
  | .bit0B => [0xCB, 0x40]
  | .bit0C => [0xCB, 0x41]
  | .bit0D => [0xCB, 0x42]
  | .bit0E => [0xCB, 0x43]
  | .bit0H => [0xCB, 0x44]
  | .bit0L => [0xCB, 0x45]
  | .bit0MemHL => [0xCB, 0x46]
  | .bit0A => [0xCB, 0x47]
  | .bit1B => [0xCB, 0x48]
  | .bit1C => [0xCB, 0x49]
  | .bit1D => [0xCB, 0x4A]
  | .bit1E => [0xCB, 0x4B]
  | .bit1H => [0xCB, 0x4C]
  | .bit1L => [0xCB, 0x4D]
  | .bit1MemHL => [0xCB, 0x4E]
  | .bit1A => [0xCB, 0x4F]
  | .bit2B => [0xCB, 0x50]
  | .bit2C => [0xCB, 0x51]
  | .bit2D => [0xCB, 0x52]
  | .bit2E => [0xCB, 0x53]
  | .bit2H => [0xCB, 0x54]
  | .bit2L => [0xCB, 0x55]
  | .bit2MemHL => [0xCB, 0x56]
  | .bit2A => [0xCB, 0x57]
  | .bit3B => [0xCB, 0x58]
  | .bit3C => [0xCB, 0x59]
  | .bit3D => [0xCB, 0x5A]
  | .bit3E => [0xCB, 0x5B]
  | .bit3H => [0xCB, 0x5C]
  | .bit3L => [0xCB, 0x5D]
  | .bit3MemHL => [0xCB, 0x5E]
  | .bit3A => [0xCB, 0x5F]
  | .bit4B => [0xCB, 0x60]
  | .bit4C => [0xCB, 0x61]
  | .bit4D => [0xCB, 0x62]
  | .bit4E => [0xCB, 0x63]
  | .bit4H => [0xCB, 0x64]
  | .bit4L => [0xCB, 0x65]
  | .bit4MemHL => [0xCB, 0x66]
  | .bit4A => [0xCB, 0x67]
  | .bit5B => [0xCB, 0x68]
  | .bit5C => [0xCB, 0x69]
  | .bit5D => [0xCB, 0x6A]
  | .bit5E => [0xCB, 0x6B]
  | .bit5H => [0xCB, 0x6C]
  | .bit5L => [0xCB, 0x6D]
  | .bit5MemHL => [0xCB, 0x6E]
  | .bit5A => [0xCB, 0x6F]
  | .bit6B => [0xCB, 0x70]
  | .bit6C => [0xCB, 0x71]
  | .bit6D => [0xCB, 0x72]
  | .bit6E => [0xCB, 0x73]
  | .bit6H => [0xCB, 0x74]
  | .bit6L => [0xCB, 0x75]
  | .bit6MemHL => [0xCB, 0x76]
  | .bit6A => [0xCB, 0x77]
  | .bit7B => [0xCB, 0x78]
  | .bit7C => [0xCB, 0x79]
  | .bit7D => [0xCB, 0x7A]
  | .bit7E => [0xCB, 0x7B]
  | .bit7H => [0xCB, 0x7C]
  | .bit7L => [0xCB, 0x7D]
  | .bit7MemHL => [0xCB, 0x7E]
  | .bit7A => [0xCB, 0x7F]
  | .res0B => [0xCB, 0x80]
  | .res0C => [0xCB, 0x81]
  | .res0D => [0xCB, 0x82]
  | .res0E => [0xCB, 0x83]
  | .res0H => [0xCB, 0x84]
  | .res0L => [0xCB, 0x85]
  | .res0MemHL => [0xCB, 0x86]
  | .res0A => [0xCB, 0x87]
  | .res1B => [0xCB, 0x88]
  | .res1C => [0xCB, 0x89]
  | .res1D => [0xCB, 0x8A]
  | .res1E => [0xCB, 0x8B]
  | .res1H => [0xCB, 0x8C]
  | .res1L => [0xCB, 0x8D]
  | .res1MemHL => [0xCB, 0x8E]
  | .res1A => [0xCB, 0x8F]
  | .res2B => [0xCB, 0x90]
  | .res2C => [0xCB, 0x91]
  | .res2D => [0xCB, 0x92]
  | .res2E => [0xCB, 0x93]
  | .res2H => [0xCB, 0x94]
  | .res2L => [0xCB, 0x95]
  | .res2MemHL => [0xCB, 0x96]
  | .res2A => [0xCB, 0x97]
  | .res3B => [0xCB, 0x98]
  | .res3C => [0xCB, 0x99]
  | .res3D => [0xCB, 0x9A]
  | .res3E => [0xCB, 0x9B]
  | .res3H => [0xCB, 0x9C]
  | .res3L => [0xCB, 0x9D]
  | .res3MemHL => [0xCB, 0x9E]
  | .res3A => [0xCB, 0x9F]
  | .res4B => [0xCB, 0xA0]
  | .res4C => [0xCB, 0xA1]
  | .res4D => [0xCB, 0xA2]
  | .res4E => [0xCB, 0xA3]
  | .res4H => [0xCB, 0xA4]
  | .res4L => [0xCB, 0xA5]
  | .res4MemHL => [0xCB, 0xA6]
  | .res4A => [0xCB, 0xA7]
  | .res5B => [0xCB, 0xA8]
  | .res5C => [0xCB, 0xA9]
  | .res5D => [0xCB, 0xAA]
  | .res5E => [0xCB, 0xAB]
  | .res5H => [0xCB, 0xAC]
  | .res5L => [0xCB, 0xAD]
  | .res5MemHL => [0xCB, 0xAE]
  | .res5A => [0xCB, 0xAF]
  | .res6B => [0xCB, 0xB0]
  | .res6C => [0xCB, 0xB1]
  | .res6D => [0xCB, 0xB2]
  | .res6E => [0xCB, 0xB3]
  | .res6H => [0xCB, 0xB4]
  | .res6L => [0xCB, 0xB5]
  | .res6MemHL => [0xCB, 0xB6]
  | .res6A => [0xCB, 0xB7]
  | .res7B => [0xCB, 0xB8]
  | .res7C => [0xCB, 0xB9]
  | .res7D => [0xCB, 0xBA]
  | .res7E => [0xCB, 0xBB]
  | .res7H => [0xCB, 0xBC]
  | .res7L => [0xCB, 0xBD]
  | .res7MemHL => [0xCB, 0xBE]
  | .res7A => [0xCB, 0xBF]
  | .set0B => [0xCB, 0xC0]
  | .set0C => [0xCB, 0xC1]
  | .set0D => [0xCB, 0xC2]
  | .set0E => [0xCB, 0xC3]
  | .set0H => [0xCB, 0xC4]
  | .set0L => [0xCB, 0xC5]
  | .set0MemHL => [0xCB, 0xC6]
  | .set0A => [0xCB, 0xC7]
  | .set1B => [0xCB, 0xC8]
  | .set1C => [0xCB, 0xC9]
  | .set1D => [0xCB, 0xCA]
  | .set1E => [0xCB, 0xCB]
  | .set1H => [0xCB, 0xCC]
  | .set1L => [0xCB, 0xCD]
  | .set1MemHL => [0xCB, 0xCE]
  | .set1A => [0xCB, 0xCF]
  | .set2B => [0xCB, 0xD0]
  | .set2C => [0xCB, 0xD1]
  | .set2D => [0xCB, 0xD2]
  | .set2E => [0xCB, 0xD3]
  | .set2H => [0xCB, 0xD4]
  | .set2L => [0xCB, 0xD5]
  | .set2MemHL => [0xCB, 0xD6]
  | .set2A => [0xCB, 0xD7]
  | .set3B => [0xCB, 0xD8]
  | .set3C => [0xCB, 0xD9]
  | .set3D => [0xCB, 0xDA]
  | .set3E => [0xCB, 0xDB]
  | .set3H => [0xCB, 0xDC]
  | .set3L => [0xCB, 0xDD]
  | .set3MemHL => [0xCB, 0xDE]
  | .set3A => [0xCB, 0xDF]
  | .set4B => [0xCB, 0xE0]
  | .set4C => [0xCB, 0xE1]
  | .set4D => [0xCB, 0xE2]
  | .set4E => [0xCB, 0xE3]
  | .set4H => [0xCB, 0xE4]
  | .set4L => [0xCB, 0xE5]
  | .set4MemHL => [0xCB, 0xE6]
  | .set4A => [0xCB, 0xE7]
  | .set5B => [0xCB, 0xE8]
  | .set5C => [0xCB, 0xE9]
  | .set5D => [0xCB, 0xEA]
  | .set5E => [0xCB, 0xEB]
  | .set5H => [0xCB, 0xEC]
  | .set5L => [0xCB, 0xED]
  | .set5MemHL => [0xCB, 0xEE]
  | .set5A => [0xCB, 0xEF]
  | .set6B => [0xCB, 0xF0]
  | .set6C => [0xCB, 0xF1]
  | .set6D => [0xCB, 0xF2]
  | .set6E => [0xCB, 0xF3]
  | .set6H => [0xCB, 0xF4]
  | .set6L => [0xCB, 0xF5]
  | .set6MemHL => [0xCB, 0xF6]
  | .set6A => [0xCB, 0xF7]
  | .set7B => [0xCB, 0xF8]
  | .set7C => [0xCB, 0xF9]
  | .set7D => [0xCB, 0xFA]
  | .set7E => [0xCB, 0xFB]
  | .set7H => [0xCB, 0xFC]
  | .set7L => [0xCB, 0xFD]
  | .set7MemHL => [0xCB, 0xFE]
  | .set7A => [0xCB, 0xFF]

end Sys2Proof
end

