-- ==== Sys2Proof/Config.lean ====
section
/-! DEFINITION. The parameters that the spec leaves open (spec/92_eei_decisions.md section 2). A parameter whose
value no rule fixes is opaque: nothing can be proved about its value. -/

namespace Sys2Proof

/-- The two choices of `EI_HALT_RETURN` (D11, R323). -/
inductive EiHaltReturn where
  | after
  | atHalt
deriving DecidableEq, Repr, Inhabited

/-- One reading of the host's clock (63_cartridge_mbc.md R547): `0 ≤ s, m ≤ 59`, `0 ≤ h ≤ 23`, `0 ≤ d ≤ 511`. -/
structure RtcTime where
  s : Fin 60
  m : Fin 60
  h : Fin 24
  d : Fin 512
deriving DecidableEq, Repr, Inhabited

/-- `EI_HALT_RETURN` (R323, D11): OPEN in the spec, so a free choice here (log entry 3). -/
opaque Config.eiHaltReturn : EiHaltReturn

/-- `RTC_NOW` (R547, D38): the `n`-th draw of the host's clock, a free value (log entry 4). -/
opaque Config.rtcNow : Nat → RtcTime

/-- `NORMALISE` (62_apu.md R505, D34): the map of `0..480` to the host's signed 16 bits, left free (log entry 7). -/
opaque Config.normalise : Nat → BitVec 16

/-- A value of `SYSCLK_RESET`, which must be a multiple of 4 (70_reset_and_hazards.md R603, D15). -/
structure SysclkReset where
  value : BitVec 16
  aligned : value.toNat % 4 = 0
deriving DecidableEq, Repr

/-- `SYSCLK_RESET` (R603, D15). DESIGN CHOICE: the spec's default (log entry 2). -/
def Config.sysclkReset : SysclkReset := ⟨0xABCC, by decide⟩

end Sys2Proof
end

