-- ==== Sys2Proof/Machine/State.lean ====
section
/-! DEFINITION. The state of the machine: every piece of state that spec/ names (INVENTORY.md lists them with their
rules), as plain data; the state after reset; and the named updates of one component. -/

namespace Sys2Proof.Machine

/-- The CPU's registers and hidden bits (10_state.md R20 to R31). `F` is held as its four bits (R22: bits 3 to 0 are no
storage). -/
structure Cpu where
  a : Byte
  b : Byte
  c : Byte
  d : Byte
  e : Byte
  h : Byte
  l : Byte
  zf : Bool
  nf : Bool
  hf : Bool
  cf : Bool
  sp : Word
  pc : Word
  ime : Bool
  eiPending : Bool
  halted : Bool
  stopped : Bool
  frozen : Bool
  haltBug : Bool
deriving DecidableEq, Repr

/-- The interrupt controller (R35, R36): bits 4 to 0 of `IE` and of `IF`. -/
structure Irq where
  ie : BitVec 5
  iflag : BitVec 5
deriving DecidableEq, Repr

/-- The timer (60_exceptions.md R335). -/
structure Timer where
  sysclk : BitVec 16
  tima : Byte
  tma : Byte
  tac : BitVec 3
  reload : Nat
deriving DecidableEq, Repr

/-- The joypad (R341 to R344): `P1[5:4]`, the host's `BUTTONS`, `joy_prev`. -/
structure Joypad where
  select : BitVec 2
  buttons : Byte
  prev : BitVec 4
deriving DecidableEq, Repr

/-- The serial stub (R345): `SB`, `SC[7]`, `SC[0]`. -/
structure Serial where
  sb : Byte
  sc7 : Bool
  sc0 : Bool
deriving DecidableEq, Repr

/-- The PPU's modes (61_ppu.md R400), numbered 0 to 3 by `PpuMode.code`. -/
inductive PpuMode where
  | hblank
  | vblank
  | oamScan
  | draw
deriving DecidableEq, Repr

/-- A shade (R400): 2 bits, 0 the lightest. -/
abbrev Shade := BitVec 2

/-- The PPU (R400). `statSel` is `STAT[6:3]`. -/
structure Ppu where
  lcdc : Byte
  statSel : BitVec 4
  scy : Byte
  scx : Byte
  ly : Byte
  lyc : Byte
  wy : Byte
  wx : Byte
  bgp : Byte
  obp0 : Byte
  obp1 : Byte
  dma : Byte
  mode : PpuMode
  dot : Nat
  lineSprites : List (Fin 40)
  winLine : Nat
  wyLatch : Bool
  statPrev : Bool
  framebuffer : Vector (Vector Shade 160) 144
  frameDone : Bool
deriving DecidableEq, Repr

/-- A square channel, ch1 or ch2 (62_apu.md R450). -/
structure Square where
  enabled : Bool
  length : Nat
  vol : BitVec 4
  envTimer : BitVec 3
  freqTimer : Nat
  dutyPos : BitVec 3
  duty : BitVec 2
  envInit : BitVec 4
  envDir : Bool
  envPeriod : BitVec 3
  freq : BitVec 11
  lenEnable : Bool
deriving DecidableEq, Repr

/-- The sweep unit of ch1 (R450). -/
structure Sweep where
  period : BitVec 3
  negate : Bool
  shift : BitVec 3
  enabled : Bool
  timer : Nat
  shadow : BitVec 11
deriving DecidableEq, Repr

/-- The wave channel ch3 (R450); its wave RAM stands in `State.mem`. -/
structure Wave where
  enabled : Bool
  length : Nat
  freqTimer : Nat
  wavePos : BitVec 5
  sample : BitVec 4
  dac : Bool
  volCode : BitVec 2
  freq : BitVec 11
  lenEnable : Bool
deriving DecidableEq, Repr

/-- The noise channel ch4 (R450). -/
structure Noise where
  enabled : Bool
  length : Nat
  vol : BitVec 4
  envTimer : BitVec 3
  freqTimer : Nat
  lfsr : BitVec 15
  envInit : BitVec 4
  envDir : Bool
  envPeriod : BitVec 3
  clockShift : BitVec 4
  width : Bool
  divisorCode : BitVec 3
  lenEnable : Bool
deriving DecidableEq, Repr

/-- The APU (R450). -/
structure Apu where
  ch1 : Square
  ch2 : Square
  sweep : Sweep
  ch3 : Wave
  ch4 : Noise
  power : Bool
  fsStep : BitVec 3
  nr50 : Byte
  nr51 : Byte
deriving DecidableEq, Repr

/-- `MBC_KIND` (63_cartridge_mbc.md R521). -/
inductive MbcKind where
  | noMbc
  | mbc1
  | mbc2
  | mbc3
deriving DecidableEq, Repr

/-- `rtc[0..4]`, the latched clock registers of the MBC3 (R520). -/
structure RtcRegs where
  sec : Byte
  min : Byte
  hour : Byte
  dayLow : Byte
  dayHigh : Byte
deriving DecidableEq, Repr

/-- The cartridge (R520). `rom` and `ram` list bytes by their offset into `ROM` and `CartRAM`; an offset that is not
listed holds `0x00` (log entry 14). The first six fields are constant for a run. -/
structure Cart where
  rom : List Host.Cell
  kind : MbcKind
  romBanks : Nat
  ramSize : Nat
  hasBattery : Bool
  hasRtc : Bool
  ram : List Host.Cell
  ramEnable : Bool
  romBankLo : BitVec 5
  bankHi : BitVec 2
  mode : Bool
  romBank2 : BitVec 4
  romBank3 : BitVec 7
  ramBankOrRtc : BitVec 4
  rtcLatchPrev : Byte
  rtc : RtcRegs
deriving DecidableEq, Repr

/-- The whole machine. `mem` lists the bytes of VRAM, WRAM, OAM, wave RAM and HRAM by bus address (20_memory.md R64 to
R71); an address that is not listed holds `0x00` (70_reset_and_hazards.md R602: all RAMs are zeroed). `cycles` and
`draws` are the model's own: the cost that `cycles <- n` records (00_scope.md R13) while a step runs, and how many
values of `RTC_NOW` have been drawn (log entries 5 and 4). -/
structure State where
  cpu : Cpu
  irq : Irq
  timer : Timer
  joypad : Joypad
  serial : Serial
  ppu : Ppu
  apu : Apu
  cart : Cart
  mem : List Host.Cell
  cycles : Nat
  draws : Nat
deriving DecidableEq, Repr

/-- No rule of the spec stops the machine (60_exceptions.md R310: the freeze is a state in which steps change nothing,
and everything else is defined), so there is no fault. -/
inductive Fault where
deriving DecidableEq, Repr

/-- The refusals of `exec`. -/
inductive Refusal where
  /-- Raised by no arm of this model: every row of the opcode table has its meaning. Safe: it stops the run. -/
  | notModelled (mnemonic : String)
deriving DecidableEq, Repr

/-- The outcome of one step of this machine. -/
abbrev Result := Host.Outcome State Fault Refusal

/-! The state after reset. -/

/-- R601. -/
def Cpu.cold : Cpu where
  a := 0x01
  b := 0x00
  c := 0x13
  d := 0x00
  e := 0xD8
  h := 0x01
  l := 0x4D
  zf := true
  nf := false
  hf := true
  cf := true
  sp := 0xFFFE
  pc := 0x0100
  ime := false
  eiPending := false
  halted := false
  stopped := false
  frozen := false
  haltBug := false

/-- R604. -/
def Irq.cold : Irq := ⟨0, 0b00001⟩

/-- R603; `k` is the parameter `SYSCLK_RESET`. -/
def Timer.cold (k : SysclkReset) : Timer := ⟨k.value, 0, 0, 0, 0⟩

/-- R604. -/
def Joypad.cold : Joypad := ⟨0, 0, 0xF⟩

/-- R604. -/
def Serial.cold : Serial := ⟨0, false, false⟩

/-- R605. -/
def Ppu.cold : Ppu where
  lcdc := 0x91
  statSel := 0
  scy := 0
  scx := 0
  ly := 0
  lyc := 0
  wy := 0
  wx := 0
  bgp := 0xFC
  obp0 := 0xFF
  obp1 := 0xFF
  dma := 0xFF
  mode := .oamScan
  dot := 0
  lineSprites := []
  winLine := 0
  wyLatch := false
  statPrev := false
  framebuffer := Vector.replicate 144 (Vector.replicate 160 0)
  frameDone := false

/-- A square channel with every field 0. -/
def Square.zero : Square := ⟨false, 0, 0, 0, 0, 0, 0, 0, false, 0, 0, false⟩

/-- A sweep unit with every field 0. -/
def Sweep.zero : Sweep := ⟨0, false, 0, false, 0, 0⟩

/-- The wave channel with every field 0. -/
def Wave.zero : Wave := ⟨false, 0, 0, 0, 0, false, 0, 0, false⟩

/-- The noise channel with every field 0. -/
def Noise.zero : Noise := ⟨false, 0, 0, 0, 0, 0, 0, false, 0, 0, false, 0, false⟩

/-- R606. -/
def Apu.cold : Apu where
  ch1 := { Square.zero with enabled := true, duty := 2, envInit := 15, envPeriod := 3 }
  ch2 := Square.zero
  sweep := Sweep.zero
  ch3 := Wave.zero
  ch4 := { Noise.zero with lfsr := 0x7FFF }
  power := true
  fsStep := 0
  nr50 := 0x77
  nr51 := 0xF3

/-- The controller registers at their reset values (R520, R607); ROM, kind, sizes and `CartRAM` are kept. -/
def Cart.resetController (c : Cart) : Cart :=
  { c with
    ramEnable := false
    romBankLo := 1
    bankHi := 0
    mode := false
    romBank2 := 1
    romBank3 := 1
    ramBankOrRtc := 0
    rtcLatchPrev := 0xFF
    rtc := ⟨0, 0, 0, 0, 0⟩ }

/-- DESIGN CHOICE (log entry 1): the cartridge of `State.reset`, a ROM of 32 KiB that is all zero, whose header bytes
then say: no controller, two banks, no RAM, no battery, no clock (R521, R522). -/
def Cart.blank : Cart :=
  Cart.resetController
    { rom := []
      kind := .noMbc
      romBanks := 2
      ramSize := 0
      hasBattery := false
      hasRtc := false
      ram := []
      ramEnable := false
      romBankLo := 1
      bankHi := 0
      mode := false
      romBank2 := 1
      romBank3 := 1
      ramBankOrRtc := 0
      rtcLatchPrev := 0xFF
      rtc := ⟨0, 0, 0, 0, 0⟩ }

/-- The reset state of a machine with the cartridge `cart` (R600 to R607). -/
def State.cold (k : SysclkReset) (cart : Cart) : State where
  cpu := Cpu.cold
  irq := Irq.cold
  timer := Timer.cold k
  joypad := Joypad.cold
  serial := Serial.cold
  ppu := Ppu.cold
  apu := Apu.cold
  cart := cart
  mem := []
  cycles := 0
  draws := 0

/-- The machine right after reset, with the default `SYSCLK_RESET` and the blank cartridge (log entries 1 and 2). -/
def State.reset : State := State.cold Config.sysclkReset Cart.blank

/-! The named updates: one component is replaced, the others stay. -/

def State.setCpu (s : State) (x : Cpu) : State := { s with cpu := x }

def State.setIrq (s : State) (x : Irq) : State := { s with irq := x }

def State.setTimer (s : State) (x : Timer) : State := { s with timer := x }

def State.setJoypad (s : State) (x : Joypad) : State := { s with joypad := x }

def State.setSerial (s : State) (x : Serial) : State := { s with serial := x }

def State.setPpu (s : State) (x : Ppu) : State := { s with ppu := x }

def State.setApu (s : State) (x : Apu) : State := { s with apu := x }

def State.setCart (s : State) (x : Cart) : State := { s with cart := x }

def State.setMem (s : State) (x : List Host.Cell) : State := { s with mem := x }

def State.setDraws (s : State) (x : Nat) : State := { s with draws := x }

/-- `cycles <- n` (00_scope.md R13). -/
def State.cost (s : State) (n : Nat) : State := { s with cycles := n }

end Sys2Proof.Machine
end

