-- ==== Sys2Proof/Machine/Memory.lean ====
section
/-! DEFINITION. Bytes by address, as a list of cells in one canonical form: addresses strictly rising, no cell holding
`0x00`. An address that is not listed holds `0x00`: 70_reset_and_hazards.md R602 zeroes every RAM at reset. -/

namespace Sys2Proof.Machine

/-- The byte at `a`. -/
def Memory.read : List Host.Cell → Nat → Byte
  | [], _ => 0
  | (k, v) :: m, a => if k = a then v else Memory.read m a

/-- `m` without the cell of `a`. -/
def Memory.erase : List Host.Cell → Nat → List Host.Cell
  | [], _ => []
  | (k, v) :: m, a => if k = a then Memory.erase m a else (k, v) :: Memory.erase m a

/-- `m` with the cell `(a, v)` put before the first greater address. -/
def Memory.insert : List Host.Cell → Nat → Byte → List Host.Cell
  | [], a, v => [(a, v)]
  | (k, w) :: m, a, v => if a < k then (a, v) :: (k, w) :: m else (k, w) :: Memory.insert m a v

/-- `m` with `v` at `a`, in canonical form. -/
def Memory.write (m : List Host.Cell) (a : Nat) (v : Byte) : List Host.Cell :=
  if v = 0 then Memory.erase m a else Memory.insert (Memory.erase m a) a v

/-- The canonical form: addresses strictly rising, no cell equal to what an unlisted address reads as. -/
abbrev Memory.wf (m : List Host.Cell) : Prop :=
  m.Pairwise (fun x y => x.1 < y.1) ∧ ∀ c ∈ m, c.2 ≠ 0

/-- The cells of a byte list whose first byte stands at `base` (63_cartridge_mbc.md R555, R560: a byte array). -/
def Memory.ofBytes : Nat → List Byte → List Host.Cell
  | _, [] => []
  | base, b :: bs => if b = 0 then Memory.ofBytes (base + 1) bs else (base, b) :: Memory.ofBytes (base + 1) bs

/-- The `n` bytes from `base` on, in address order. -/
def Memory.toBytes (m : List Host.Cell) (base n : Nat) : List Byte :=
  (List.range n).map (fun i => Memory.read m (base + i))

end Sys2Proof.Machine
end

