-- ==== Sys2Proof/Machine/Apu.lean ====
section
/-! DEFINITION. The APU (62_apu.md): registers, generators, frame sequencer, triggers, power and output. Wave RAM is
read from the memory `m` (R470). -/

namespace Sys2Proof.Machine

/-! Parts of the channels (R450, R495). -/

/-- `DacOn` of ch1 and ch2 (R495). -/
def Square.dacOn (c : Square) : Bool := c.envInit != 0 || c.envDir

/-- `DacOn(ch4)` (R495). -/
def Noise.dacOn (c : Noise) : Bool := c.envInit != 0 || c.envDir

/-- The frequency period of a square channel (R485). -/
def Square.period (c : Square) : Nat := (2048 - c.freq.toNat) * 4

/-- The frequency period of ch3 (R486). -/
def Wave.period (c : Wave) : Nat := (2048 - c.freq.toNat) * 2

/-- `DIVISOR[code]` (R487). -/
def noiseDivisor (code : BitVec 3) : Nat :=
  match code with
  | 0 => 8
  | 1 => 16
  | 2 => 32
  | 3 => 48
  | 4 => 64
  | 5 => 80
  | 6 => 96
  | 7 => 112

/-- The frequency period of ch4 (R487): `DIVISOR[divisor_code] << clock_shift`. -/
def Noise.period (c : Noise) : Nat := noiseDivisor c.divisorCode * 2 ^ c.clockShift.toNat

/-! Length counters (R482). -/

/-- The new length and enabled flag of `LengthClock` (R482). -/
def lengthClock (lenEnable enabled : Bool) (length : Nat) : Nat × Bool :=
  if lenEnable && decide (0 < length) then
    (length - 1, if length = 1 then false else enabled)
  else (length, enabled)

/-- `LengthClock(ch1)`, `LengthClock(ch2)` (R482). -/
def Square.lengthClock (c : Square) : Square :=
  let r := Machine.lengthClock c.lenEnable c.enabled c.length
  { c with length := r.1, enabled := r.2 }

/-- `LengthClock(ch3)` (R482). -/
def Wave.lengthClock (c : Wave) : Wave :=
  let r := Machine.lengthClock c.lenEnable c.enabled c.length
  { c with length := r.1, enabled := r.2 }

/-- `LengthClock(ch4)` (R482). -/
def Noise.lengthClock (c : Noise) : Noise :=
  let r := Machine.lengthClock c.lenEnable c.enabled c.length
  { c with length := r.1, enabled := r.2 }

/-! Envelopes (R483). -/

/-- The new volume and envelope timer of `EnvelopeClock` (R483). -/
def envelopeClock (dir : Bool) (period timer : BitVec 3) (vol : BitVec 4) : BitVec 4 × BitVec 3 :=
  if period = 0 then (vol, timer)
  else if 1 < timer.toNat then (vol, timer - 1)
  else (if dir then (if vol = 15 then vol else vol + 1) else (if vol = 0 then vol else vol - 1), period)

/-- `EnvelopeClock(ch1)`, `EnvelopeClock(ch2)` (R483). -/
def Square.envelopeClock (c : Square) : Square :=
  let r := Machine.envelopeClock c.envDir c.envPeriod c.envTimer c.vol
  { c with vol := r.1, envTimer := r.2 }

/-- `EnvelopeClock(ch4)` (R483). -/
def Noise.envelopeClock (c : Noise) : Noise :=
  let r := Machine.envelopeClock c.envDir c.envPeriod c.envTimer c.vol
  { c with vol := r.1, envTimer := r.2 }

/-! The sweep unit of ch1 (R484). -/

/-- The candidate frequency of `SweepCalc()` (R484), on unbounded numbers. -/
def Sweep.candidate (w : Sweep) : Nat :=
  if w.negate then w.shadow.toNat - w.shadow.toNat / 2 ^ w.shift.toNat
  else w.shadow.toNat + w.shadow.toNat / 2 ^ w.shift.toNat

/-- What `SweepCalc()` does to `ch1.enabled` (R484): a candidate above 2047 switches ch1 off. -/
def Square.sweepCheck (c : Square) (w : Sweep) : Square :=
  if 2047 < w.candidate then { c with enabled := false } else c

/-- `ch1.sweep_period if ch1.sweep_period != 0 else 8` (R484, R490). -/
def Sweep.reload (w : Sweep) : Nat := if w.period = 0 then 8 else w.period.toNat

/-- The sweep calculation of `SweepClock()` once its timer has expired (R484). -/
def sweepStep (c : Square) (w : Sweep) : Square × Sweep :=
  let c1 := c.sweepCheck w
  if w.candidate ≤ 2047 ∧ w.shift ≠ 0 then
    let f := BitVec.ofNat 11 w.candidate
    let w2 := { w with shadow := f }
    (Square.sweepCheck { c1 with freq := f } w2, w2)
  else (c1, w)

/-- `SweepClock()` (R484). -/
def sweepClock (c : Square) (w : Sweep) : Square × Sweep :=
  if 1 < w.timer then (c, { w with timer := w.timer - 1 })
  else
    let w1 := { w with timer := w.reload }
    if w.enabled && w.period != 0 then sweepStep c w1 else (c, w1)

/-! Generators (R485 to R487). -/

/-- `SquareTick(ch)` (R485). -/
def Square.tick (c : Square) : Square :=
  if c.freqTimer ≤ 1 then { c with freqTimer := c.period, dutyPos := c.dutyPos + 1 }
  else { c with freqTimer := c.freqTimer - 1 }

/-- Row `d` of `DUTY` (R485), position 0 the most significant bit. -/
def dutyRow (d : BitVec 2) : Byte :=
  match d with
  | 0 => 0b00000001
  | 1 => 0b10000001
  | 2 => 0b10000111
  | 3 => 0b01111110

/-- `DUTY[d][pos]` (R485). -/
def dutyBit (d : BitVec 2) (pos : BitVec 3) : Bool := bit (dutyRow d) (7 - pos.toNat)

/-- `SquareOut(ch)` (R485). -/
def Square.out (c : Square) : Nat := if c.enabled && dutyBit c.duty c.dutyPos then c.vol.toNat else 0

/-- Sample `p` of wave RAM (R470): the high nibble of each byte comes first. -/
def waveSample (m : List Host.Cell) (p : BitVec 5) : BitVec 4 :=
  let b := Memory.read m (0xFF30 + p.toNat / 2)
  if bit p 0 then b.extractLsb' 0 4 else b.extractLsb' 4 4

/-- `WaveTick()` (R486). -/
def Wave.tick (c : Wave) (m : List Host.Cell) : Wave :=
  if c.freqTimer ≤ 1 then
    { c with freqTimer := c.period, wavePos := c.wavePos + 1, sample := waveSample m (c.wavePos + 1) }
  else { c with freqTimer := c.freqTimer - 1 }

/-- `WaveOut()` (R486). -/
def Wave.out (c : Wave) : Nat :=
  if c.enabled && c.volCode != 0 then c.sample.toNat / 2 ^ (c.volCode.toNat - 1) else 0

/-- One shift of the LFSR (R487): bit 0 xor bit 1 enters at bit 14, and at bit 6 too in the 7-bit width. -/
def lfsrShift (width : Bool) (r : BitVec 15) : BitVec 15 :=
  let x := bit1 (bit r 0 != bit r 1)
  if width then x ++ r.extractLsb' 8 7 ++ x ++ r.extractLsb' 1 6 else x ++ r.extractLsb' 1 14

/-- `NoiseTick()` (R487). -/
def Noise.tick (c : Noise) : Noise :=
  if c.freqTimer ≤ 1 then { c with freqTimer := c.period, lfsr := lfsrShift c.width c.lfsr }
  else { c with freqTimer := c.freqTimer - 1 }

/-- `NoiseOut()` (R487). -/
def Noise.out (c : Noise) : Nat := if c.enabled && !bit c.lfsr 0 then c.vol.toNat else 0

/-! The frame sequencer (R481). -/

/-- `LengthClock` of all four channels (R481). -/
def Apu.lengthClock (a : Apu) : Apu :=
  { a with
    ch1 := a.ch1.lengthClock
    ch2 := a.ch2.lengthClock
    ch3 := a.ch3.lengthClock
    ch4 := a.ch4.lengthClock }

/-- `SweepClock()` on the APU (R484). -/
def Apu.sweepClock (a : Apu) : Apu :=
  let r := Machine.sweepClock a.ch1 a.sweep
  { a with ch1 := r.1, sweep := r.2 }

/-- `EnvelopeClock` of ch1, ch2 and ch4 (R481). -/
def Apu.envelopeClock (a : Apu) : Apu :=
  { a with
    ch1 := a.ch1.envelopeClock
    ch2 := a.ch2.envelopeClock
    ch4 := a.ch4.envelopeClock }

/-- What the sequencer clocks in the step it stands at (R481). -/
def Apu.sequencerAction (a : Apu) : Apu :=
  match a.fsStep with
  | 0 => a.lengthClock
  | 1 => a
  | 2 => a.lengthClock.sweepClock
  | 3 => a
  | 4 => a.lengthClock
  | 5 => a
  | 6 => a.lengthClock.sweepClock
  | 7 => a.envelopeClock

/-- `FrameSequencerClock()` (R481). -/
def Apu.sequencerClock (a : Apu) : Apu :=
  if a.power then { a.sequencerAction with fsStep := a.fsStep + 1 } else a

/-- The four generators of `APUTick1()` (R480). -/
def Apu.generate (a : Apu) (m : List Host.Cell) : Apu :=
  if a.power then
    { a with ch1 := a.ch1.tick, ch2 := a.ch2.tick, ch3 := a.ch3.tick m, ch4 := a.ch4.tick }
  else a

/-- `APUTick1()` (R480); `sysclk` is the timer's counter, already incremented for this t-cycle. -/
def Apu.tick1 (a : Apu) (sysclk : BitVec 16) (m : List Host.Cell) : Apu :=
  (if sysclk.extractLsb' 0 13 = 0 then a.sequencerClock else a).generate m

/-! Triggers (R490 to R493). -/

/-- The sweep unit after a trigger of ch1 (R490). -/
def Sweep.trigger (w : Sweep) (freq : BitVec 11) : Sweep :=
  { w with shadow := freq, timer := w.reload, enabled := w.period != 0 || w.shift != 0 }

/-- The part of a trigger that ch1 and ch2 share (R490, R491), without the DAC test. -/
def Square.restart (c : Square) : Square :=
  { c with
    enabled := true
    length := if c.length = 0 then 64 else c.length
    freqTimer := c.period
    envTimer := c.envPeriod
    vol := c.envInit }

/-- `if DacOn(ch) = 0 then ch.enabled <- 0` (R490, R491). -/
def Square.dacTest (c : Square) : Square := if c.dacOn then c else { c with enabled := false }

/-- `Trigger(ch1)` (R490). -/
def Apu.trigger1 (a : Apu) : Apu :=
  let w := a.sweep.trigger a.ch1.freq
  let c := a.ch1.restart
  { a with ch1 := (if w.shift ≠ 0 then c.sweepCheck w else c).dacTest, sweep := w }

/-- `Trigger(ch2)` (R491). -/
def Apu.trigger2 (a : Apu) : Apu := { a with ch2 := a.ch2.restart.dacTest }

/-- `Trigger(ch3)` (R492). -/
def Wave.trigger (c : Wave) : Wave :=
  { c with
    enabled := c.dac
    length := if c.length = 0 then 256 else c.length
    freqTimer := c.period
    wavePos := 0 }

/-- `Trigger(ch4)` (R493). -/
def Noise.trigger (c : Noise) : Noise :=
  { c with
    enabled := c.dacOn
    length := if c.length = 0 then 64 else c.length
    freqTimer := c.period
    envTimer := c.envPeriod
    vol := c.envInit
    lfsr := 0x7FFF }

/-! Power (R500). -/

/-- `PowerOff()` for a square channel: all but `length` is zeroed. -/
def Square.powerOff (c : Square) : Square := { Square.zero with length := c.length }

/-- `PowerOff()` for ch3. -/
def Wave.powerOff (c : Wave) : Wave := { Wave.zero with length := c.length }

/-- `PowerOff()` for ch4. -/
def Noise.powerOff (c : Noise) : Noise := { Noise.zero with length := c.length }

/-- `PowerOff()` (R500). -/
def Apu.powerOff (a : Apu) : Apu :=
  { a with
    ch1 := a.ch1.powerOff
    ch2 := a.ch2.powerOff
    sweep := Sweep.zero
    ch3 := a.ch3.powerOff
    ch4 := a.ch4.powerOff
    nr50 := 0
    nr51 := 0 }

/-- A write of `NR52` (R467): only bit 7 is writable. -/
def Apu.writeNr52 (a : Apu) (v : Byte) : Apu :=
  if a.power && !bit v 7 then { a.powerOff with power := false }
  else if !a.power && bit v 7 then { a with power := true, fsStep := 0 }
  else a

/-- A read of `NR52` (R467). -/
def Apu.readNr52 (a : Apu) : Byte :=
  bit1 a.power ++ (0b111 : BitVec 3) ++ bit1 a.ch4.enabled ++ bit1 a.ch3.enabled ++ bit1 a.ch2.enabled ++
    bit1 a.ch1.enabled

/-! Register writes of the channels (R453 to R464). -/

/-- R453. -/
def Sweep.writeNrx0 (w : Sweep) (v : Byte) : Sweep :=
  { w with period := v.extractLsb' 4 3, negate := bit v 3, shift := v.extractLsb' 0 3 }

/-- R454. -/
def Square.writeNrx1 (c : Square) (v : Byte) : Square :=
  { c with duty := v.extractLsb' 6 2, length := 64 - (v.extractLsb' 0 6).toNat }

/-- R455: a write whose bits 7 to 3 are 0 switches the channel off. -/
def Square.writeNrx2 (c : Square) (v : Byte) : Square :=
  { c with
    envInit := v.extractLsb' 4 4
    envDir := bit v 3
    envPeriod := v.extractLsb' 0 3
    enabled := if v.extractLsb' 3 5 = 0 then false else c.enabled }

/-- R456. -/
def Square.writeNrx3 (c : Square) (v : Byte) : Square := { c with freq := withLow8 c.freq v }

/-- R457, before the trigger. -/
def Square.writeNrx4 (c : Square) (v : Byte) : Square :=
  { c with lenEnable := bit v 6, freq := withHigh3 c.freq (v.extractLsb' 0 3) }

/-- R458. -/
def Wave.writeNr30 (c : Wave) (v : Byte) : Wave :=
  { c with dac := bit v 7, enabled := if bit v 7 then c.enabled else false }

/-- R459. -/
def Wave.writeNr31 (c : Wave) (v : Byte) : Wave := { c with length := 256 - v.toNat }

/-- R460. -/
def Wave.writeNr32 (c : Wave) (v : Byte) : Wave := { c with volCode := v.extractLsb' 5 2 }

/-- R456. -/
def Wave.writeNr33 (c : Wave) (v : Byte) : Wave := { c with freq := withLow8 c.freq v }

/-- R461, before the trigger. -/
def Wave.writeNr34 (c : Wave) (v : Byte) : Wave :=
  { c with lenEnable := bit v 6, freq := withHigh3 c.freq (v.extractLsb' 0 3) }

/-- R462. -/
def Noise.writeNr41 (c : Noise) (v : Byte) : Noise := { c with length := 64 - (v.extractLsb' 0 6).toNat }

/-- R455. -/
def Noise.writeNr42 (c : Noise) (v : Byte) : Noise :=
  { c with
    envInit := v.extractLsb' 4 4
    envDir := bit v 3
    envPeriod := v.extractLsb' 0 3
    enabled := if v.extractLsb' 3 5 = 0 then false else c.enabled }

/-- R463. -/
def Noise.writeNr43 (c : Noise) (v : Byte) : Noise :=
  { c with clockShift := v.extractLsb' 4 4, width := bit v 3, divisorCode := v.extractLsb' 0 3 }

/-- R464, before the trigger. -/
def Noise.writeNr44 (c : Noise) (v : Byte) : Noise := { c with lenEnable := bit v 6 }

/-! The register map (R451). -/

/-- The APU's registers. -/
inductive ApuReg where
  | nr10
  | nr11
  | nr12
  | nr13
  | nr14
  | nr21
  | nr22
  | nr23
  | nr24
  | nr30
  | nr31
  | nr32
  | nr33
  | nr34
  | nr41
  | nr42
  | nr43
  | nr44
  | nr50
  | nr51
  | nr52
deriving DecidableEq, Repr

/-- A read of `NRx2` (R451): every bit is stored. -/
def readEnvelope (init : BitVec 4) (dir : Bool) (period : BitVec 3) : Byte := init ++ bit1 dir ++ period

/-- A read of `NRx4` (R451): `0xBF`, with `len_enable` in bit 6. -/
def readLenEnable (lenEnable : Bool) : Byte := (1 : BitVec 1) ++ bit1 lenEnable ++ (0b111111 : BitVec 6)

/-- A read of `NR11` or `NR21` (R451): bits 5 to 0 read 1. -/
def readDuty (d : BitVec 2) : Byte := d ++ (0b111111 : BitVec 6)

/-- A register read (R451, R452). -/
def Apu.read (a : Apu) : ApuReg → Byte
  | .nr10 => (1 : BitVec 1) ++ a.sweep.period ++ bit1 a.sweep.negate ++ a.sweep.shift
  | .nr11 => readDuty a.ch1.duty
  | .nr12 => readEnvelope a.ch1.envInit a.ch1.envDir a.ch1.envPeriod
  | .nr13 => 0xFF
  | .nr14 => readLenEnable a.ch1.lenEnable
  | .nr21 => readDuty a.ch2.duty
  | .nr22 => readEnvelope a.ch2.envInit a.ch2.envDir a.ch2.envPeriod
  | .nr23 => 0xFF
  | .nr24 => readLenEnable a.ch2.lenEnable
  | .nr30 => bit1 a.ch3.dac ++ (0b1111111 : BitVec 7)
  | .nr31 => 0xFF
  | .nr32 => (1 : BitVec 1) ++ a.ch3.volCode ++ (0b11111 : BitVec 5)
  | .nr33 => 0xFF
  | .nr34 => readLenEnable a.ch3.lenEnable
  | .nr41 => 0xFF
  | .nr42 => readEnvelope a.ch4.envInit a.ch4.envDir a.ch4.envPeriod
  | .nr43 => a.ch4.clockShift ++ bit1 a.ch4.width ++ a.ch4.divisorCode
  | .nr44 => readLenEnable a.ch4.lenEnable
  | .nr50 => a.nr50
  | .nr51 => a.nr51
  | .nr52 => a.readNr52

/-- A write of `NR14` (R457): the fields, then the trigger when bit 7 is 1. -/
def Apu.writeNr14 (a : Apu) (v : Byte) : Apu :=
  let a1 := { a with ch1 := a.ch1.writeNrx4 v }
  if bit v 7 then a1.trigger1 else a1

/-- A write of `NR24` (R457). -/
def Apu.writeNr24 (a : Apu) (v : Byte) : Apu :=
  let a1 := { a with ch2 := a.ch2.writeNrx4 v }
  if bit v 7 then a1.trigger2 else a1

/-- A write of `NR34` (R461). -/
def Apu.writeNr34 (a : Apu) (v : Byte) : Apu :=
  let c := a.ch3.writeNr34 v
  { a with ch3 := if bit v 7 then c.trigger else c }

/-- A write of `NR44` (R464). -/
def Apu.writeNr44 (a : Apu) (v : Byte) : Apu :=
  let c := a.ch4.writeNr44 v
  { a with ch4 := if bit v 7 then c.trigger else c }

/-- A write of a register that `power` gates, while `power = 1` (R453 to R466). `NR52` is not one of them. -/
def Apu.writePowered (a : Apu) (r : ApuReg) (v : Byte) : Apu :=
  match r with
  | .nr10 => { a with sweep := a.sweep.writeNrx0 v }
  | .nr11 => { a with ch1 := a.ch1.writeNrx1 v }
  | .nr12 => { a with ch1 := a.ch1.writeNrx2 v }
  | .nr13 => { a with ch1 := a.ch1.writeNrx3 v }
  | .nr14 => a.writeNr14 v
  | .nr21 => { a with ch2 := a.ch2.writeNrx1 v }
  | .nr22 => { a with ch2 := a.ch2.writeNrx2 v }
  | .nr23 => { a with ch2 := a.ch2.writeNrx3 v }
  | .nr24 => a.writeNr24 v
  | .nr30 => { a with ch3 := a.ch3.writeNr30 v }
  | .nr31 => { a with ch3 := a.ch3.writeNr31 v }
  | .nr32 => { a with ch3 := a.ch3.writeNr32 v }
  | .nr33 => { a with ch3 := a.ch3.writeNr33 v }
  | .nr34 => a.writeNr34 v
  | .nr41 => { a with ch4 := a.ch4.writeNr41 v }
  | .nr42 => { a with ch4 := a.ch4.writeNr42 v }
  | .nr43 => { a with ch4 := a.ch4.writeNr43 v }
  | .nr44 => a.writeNr44 v
  | .nr50 => { a with nr50 := v }
  | .nr51 => { a with nr51 := v }
  | .nr52 => a.writeNr52 v

/-- A register write (R451, R500): while `power = 0` every register but `NR52` drops it. -/
def Apu.write (a : Apu) (r : ApuReg) (v : Byte) : Apu :=
  if r = .nr52 then a.writeNr52 v
  else if a.power then a.writePowered r v
  else a

/-! Output (R505). -/

/-- The sum of the channel outputs whose pan bit, from `base` on, is 1 (R505, R466). -/
def Apu.panSum (a : Apu) (base : Nat) : Nat :=
  (if bit a.nr51 base then a.ch1.out else 0) + (if bit a.nr51 (base + 1) then a.ch2.out else 0) +
  (if bit a.nr51 (base + 2) then a.ch3.out else 0) + (if bit a.nr51 (base + 3) then a.ch4.out else 0)

/-- `LeftRaw` (R505). -/
def Apu.leftRaw (a : Apu) : Nat := a.panSum 4 * ((a.nr50.extractLsb' 4 3).toNat + 1)

/-- `RightRaw` (R505). -/
def Apu.rightRaw (a : Apu) : Nat := a.panSum 0 * ((a.nr50.extractLsb' 0 3).toNat + 1)

/-- `AudioOut()` (R505); `NORMALISE` is the free value `Config.normalise` (log entry 7). -/
def Apu.audioOut (a : Apu) : BitVec 16 × BitVec 16 :=
  if a.power then (Config.normalise a.leftRaw, Config.normalise a.rightRaw)
  else (Config.normalise 0, Config.normalise 0)

end Sys2Proof.Machine
end

