-- ==== Sys2Proof/Machine/Cart.lean ====
section
/-! DEFINITION. The cartridge on the bus (63_cartridge_mbc.md R522 to R548): the ROM windows, the control registers
behind them, and the RAM window. An address argument is the bus address. -/

namespace Sys2Proof.Machine

/-- The offset in `ROM` of the byte of bank `b` that the window address `a` shows (R522). -/
def Cart.bankOffset (c : Cart) (b a : Nat) : Nat := b % c.romBanks * 0x4000 + a % 0x4000

/-- The bank in the MBC1's window `0000–3FFF` (R530). -/
def Cart.lowBank1 (c : Cart) : Nat := if c.mode then c.bankHi.toNat * 32 else 0

/-- The bank in the MBC1's window `4000–7FFF` (R530). -/
def Cart.highBank1 (c : Cart) : Nat := c.bankHi.toNat * 32 + c.romBankLo.toNat

/-- The offset in `ROM` that the address `a` of `0000–7FFF` shows (R523, R530, R538, R543). -/
def Cart.romOffset (c : Cart) (a : Nat) : Nat :=
  match c.kind with
  | .noMbc => a
  | .mbc1 => c.bankOffset (if a < 0x4000 then c.lowBank1 else c.highBank1) a
  | .mbc2 => if a < 0x4000 then a else c.bankOffset c.romBank2.toNat a
  | .mbc3 => if a < 0x4000 then a else c.bankOffset c.romBank3.toNat a

/-- A read of `0000–7FFF` (R63). -/
def Cart.readRom (c : Cart) (a : Nat) : Byte := Memory.read c.rom (c.romOffset a)

/-- The value that enables the RAM (R531, R539, R544): low nibble `0xA`. -/
def enablesRam (v : Byte) : Bool := v.extractLsb' 0 4 == 0xA

/-- `if b = 0 then b <- 1` (R532, R539, R545). -/
def bankOrOne {n : Nat} (b : BitVec n) : BitVec n := if b = 0 then 1 else b

/-- A write of `0000–7FFF` with MBC1 (R531 to R534). -/
def Cart.writeMbc1 (c : Cart) (a : Nat) (v : Byte) : Cart :=
  if a < 0x2000 then { c with ramEnable := enablesRam v }
  else if a < 0x4000 then { c with romBankLo := bankOrOne (v.extractLsb' 0 5) }
  else if a < 0x6000 then { c with bankHi := v.extractLsb' 0 2 }
  else { c with mode := bit v 0 }

/-- A write of `0000–7FFF` with MBC2 (R539): address bit 8 alone decides below `4000`. -/
def Cart.writeMbc2 (c : Cart) (a : Nat) (v : Byte) : Cart :=
  if a < 0x4000 then
    if a.testBit 8 then { c with romBank2 := bankOrOne (v.extractLsb' 0 4) }
    else { c with ramEnable := enablesRam v }
  else c

/-- Whether a write of `v` at `a` latches the clock (R547). -/
def Cart.latches (c : Cart) (a : Nat) (v : Byte) : Bool :=
  c.kind == .mbc3 && decide (0x6000 ≤ a) && decide (a < 0x8000) && c.rtcLatchPrev == 0 && v == 1 && c.hasRtc

/-- The five registers of a clock reading (R547): halt bit 6 and carry bit 7 of the last are 0. -/
def RtcTime.regs (t : RtcTime) : RtcRegs where
  sec := BitVec.ofNat 8 t.s.val
  min := BitVec.ofNat 8 t.m.val
  hour := BitVec.ofNat 8 t.h.val
  dayLow := BitVec.ofNat 8 t.d.val
  dayHigh := BitVec.ofNat 8 (t.d.val / 256)

/-- A write of `0000–7FFF` with MBC3 (R544 to R547); `now` is the draw of `RTC_NOW`, used when the write latches. -/
def Cart.writeMbc3 (c : Cart) (a : Nat) (v : Byte) (now : RtcTime) : Cart :=
  if a < 0x2000 then { c with ramEnable := enablesRam v }
  else if a < 0x4000 then { c with romBank3 := bankOrOne (v.extractLsb' 0 7) }
  else if a < 0x6000 then { c with ramBankOrRtc := v.extractLsb' 0 4 }
  else if c.latches a v then { c with rtc := RtcTime.regs now, rtcLatchPrev := v }
  else { c with rtcLatchPrev := v }

/-- A write of `0000–7FFF` (R524, R531 to R534, R539, R544 to R547): ROM itself never changes. -/
def Cart.writeControl (c : Cart) (a : Nat) (v : Byte) (now : RtcTime) : Cart :=
  match c.kind with
  | .noMbc => c
  | .mbc1 => c.writeMbc1 a v
  | .mbc2 => c.writeMbc2 a v
  | .mbc3 => c.writeMbc3 a v now

/-- What stands behind an address of the RAM window. -/
inductive RamSlot where
  /-- Nothing: reads give `0xFF`, writes are dropped. -/
  | absent
  /-- The byte of `CartRAM` at this offset. -/
  | cell (i : Nat)
  /-- The nibble of the MBC2's RAM at this offset (R540). -/
  | nibble (i : Nat)
  /-- The latched clock register of this number (R548). -/
  | rtc (i : Nat)
deriving DecidableEq, Repr

/-- The byte of RAM bank `r` (R522): absent when there is no RAM. -/
def Cart.ramCell (c : Cart) (r a : Nat) : RamSlot :=
  if c.ramSize = 0 then .absent else .cell ((r * 0x2000 + a % 0x2000) % c.ramSize)

/-- The slot behind `ram_bank_or_rtc` of an enabled MBC3 (R548). -/
def Cart.slotMbc3 (c : Cart) (a : Nat) : RamSlot :=
  let sel := c.ramBankOrRtc.toNat
  if sel ≤ 3 then c.ramCell sel a
  else if 8 ≤ sel ∧ sel ≤ 0xC ∧ c.hasRtc = true then .rtc (sel - 8)
  else .absent

/-- The slot behind the address `a` of `A000–BFFF` (R525, R535, R540, R548). -/
def Cart.ramSlot (c : Cart) (a : Nat) : RamSlot :=
  match c.kind with
  | .noMbc => c.ramCell 0 a
  | .mbc1 => if c.ramEnable then c.ramCell (if c.mode then c.bankHi.toNat else 0) a else .absent
  | .mbc2 => if c.ramEnable then .nibble (a % 0x200) else .absent
  | .mbc3 => if c.ramEnable then c.slotMbc3 a else .absent

/-- `rtc[i]` (R520). -/
def RtcRegs.get (r : RtcRegs) (i : Nat) : Byte :=
  match i with
  | 0 => r.sec
  | 1 => r.min
  | 2 => r.hour
  | 3 => r.dayLow
  | _ => r.dayHigh

/-- `rtc[i] <- v & RTCMASK[i]` (R548). -/
def RtcRegs.set (r : RtcRegs) (i : Nat) (v : Byte) : RtcRegs :=
  match i with
  | 0 => { r with sec := v &&& 0x3F }
  | 1 => { r with min := v &&& 0x3F }
  | 2 => { r with hour := v &&& 0x1F }
  | 3 => { r with dayLow := v &&& 0xFF }
  | _ => { r with dayHigh := v &&& 0xC1 }

/-- A read of `A000–BFFF` (R525, R535, R540, R548). -/
def Cart.readRam (c : Cart) (a : Nat) : Byte :=
  match c.ramSlot a with
  | .absent => 0xFF
  | .cell i => Memory.read c.ram i
  | .nibble i => (0xF : BitVec 4) ++ (Memory.read c.ram i).extractLsb' 0 4
  | .rtc i => c.rtc.get i

/-- A write of `A000–BFFF` (R525, R535, R540, R548). -/
def Cart.writeRam (c : Cart) (a : Nat) (v : Byte) : Cart :=
  match c.ramSlot a with
  | .absent => c
  | .cell i => { c with ram := Memory.write c.ram i v }
  | .nibble i => { c with ram := Memory.write c.ram i ((v.extractLsb' 0 4).setWidth 8) }
  | .rtc i => { c with rtc := c.rtc.set i v }

end Sys2Proof.Machine
end

