-- ==== Sys2Proof/Machine/Irq.lean ====
section
/-! DEFINITION. The interrupt controller: `IE` and `IF` (10_state.md R35, R36), requests (60_exceptions.md R311) and
the choice of the source to serve (R312 to R314). -/

namespace Sys2Proof.Machine

/-- The `IF` mask of source `b` (R312): bit `b`. -/
def reqMask (b : Nat) : BitVec 5 := (1 : BitVec 5) <<< b

/-- The mask of a request of `b` that is made only when `c` holds. -/
def reqIf (c : Bool) (b : Nat) : BitVec 5 := if c then reqMask b else 0

/-- `Request` of every bit of `m` (R311). -/
def Irq.raise (q : Irq) (m : BitVec 5) : Irq := { q with iflag := q.iflag ||| m }

/-- `IE & IF & 0x1F` (R313). -/
def Irq.active (q : Irq) : BitVec 5 := q.ie &&& q.iflag

/-- `pending` (60_exceptions.md, heading): `(IE & IF & 0x1F) != 0`. -/
def Irq.pending (q : Irq) : Bool := q.active != 0

/-- The source to serve (R314): the least set bit of `IE & IF`. With none set the answer is not used. -/
def Irq.first (q : Irq) : Nat :=
  if bit q.active 0 then 0
  else if bit q.active 1 then 1
  else if bit q.active 2 then 2
  else if bit q.active 3 then 3
  else 4

/-- `IF[b] <- 0` (R315). -/
def Irq.clear (q : Irq) (b : Nat) : Irq := { q with iflag := q.iflag &&& ~~~(reqMask b) }

/-- A read of `IE` (R35): bits 7 to 5 read 0. -/
def Irq.readIe (q : Irq) : Byte := (0 : BitVec 3) ++ q.ie

/-- A write of `IE` (R35): bits 4 to 0 are stored. -/
def Irq.writeIe (q : Irq) (v : Byte) : Irq := { q with ie := v.extractLsb' 0 5 }

/-- A read of `IF` (R36): bits 7 to 5 read 1. -/
def Irq.readIf (q : Irq) : Byte := (0b111 : BitVec 3) ++ q.iflag

/-- A write of `IF` (R36): bits 4 to 0 are stored. -/
def Irq.writeIf (q : Irq) (v : Byte) : Irq := { q with iflag := v.extractLsb' 0 5 }

end Sys2Proof.Machine
end

