-- ==== Sys2Proof/Machine/Joypad.lean ====
section
/-! DEFINITION. The joypad (60_exceptions.md R341 to R344) and the serial stub (R345). -/

namespace Sys2Proof.Machine

/-- The buttons held in the rows that are selected (R342). `select` bit 0 is `P1[4]`, bit 1 is `P1[5]`. -/
def Joypad.held (j : Joypad) : BitVec 4 :=
  (if bit j.select 0 then 0 else j.buttons.extractLsb' 4 4) |||
  (if bit j.select 1 then 0 else j.buttons.extractLsb' 0 4)

/-- `JoyNibble()` (R342): active low. -/
def Joypad.nibble (j : Joypad) : BitVec 4 := ~~~j.held

/-- `JoyUpdate()` (R344), with the mask of its request. -/
def Joypad.update (j : Joypad) : Joypad × BitVec 5 :=
  ({ j with prev := j.nibble }, reqIf (j.prev &&& ~~~j.nibble != 0) 4)

/-- A read of `P1` (R341). -/
def Joypad.readP1 (j : Joypad) : Byte := (0b11 : BitVec 2) ++ j.select ++ j.nibble

/-- A write of `P1` (R341): bits 5 and 4 are stored, then `JoyUpdate()`. -/
def Joypad.writeP1 (j : Joypad) (v : Byte) : Joypad × BitVec 5 :=
  Joypad.update { j with select := v.extractLsb' 4 2 }

/-- `set_buttons(mask)` (R343). -/
def Joypad.setButtons (j : Joypad) (mask : Byte) : Joypad × BitVec 5 :=
  Joypad.update { j with buttons := mask }

/-- A write of `SB` (R345). -/
def Serial.writeSb (p : Serial) (v : Byte) : Serial := { p with sb := v }

/-- A read of `SC` (R345): bits 6 to 1 read 1. -/
def Serial.readSc (p : Serial) : Byte := bit1 p.sc7 ++ (0b111111 : BitVec 6) ++ bit1 p.sc0

/-- A write of `SC` (R345): bits 7 and 0 are stored; no transfer starts. -/
def Serial.writeSc (p : Serial) (v : Byte) : Serial := { p with sc7 := bit v 7, sc0 := bit v 0 }

end Sys2Proof.Machine
end

