-- ==== Sys2Proof/Machine/Ppu.lean ====
section
/-! DEFINITION. The PPU scanline engine (61_ppu.md). VRAM and OAM are read directly from the memory `m` (20_memory.md
R74), never through the bus. An operation that can request an interrupt answers the mask of its requests beside the
new PPU. -/

namespace Sys2Proof.Machine

/-- The number of a mode (R400), as `STAT[1:0]` shows it. -/
def PpuMode.code : PpuMode → BitVec 2
  | .hblank => 0
  | .vblank => 1
  | .oamScan => 2
  | .draw => 3

/-- `LCDC[7]`, the LCD enable (R401). -/
def Ppu.lcdOn (p : Ppu) : Bool := bit p.lcdc 7

/-- `LY = LYC` (R402, R416). -/
def Ppu.coincidence (p : Ppu) : Bool := p.ly == p.lyc

/-- `VramLocked()` (20_memory.md R73). -/
def Ppu.vramLocked (p : Ppu) : Bool := p.lcdOn && p.mode == .draw

/-- `OamLocked()` (20_memory.md R73). -/
def Ppu.oamLocked (p : Ppu) : Bool := p.lcdOn && (p.mode == .oamScan || p.mode == .draw)

/-! The STAT interrupt line (R413). `statSel` bit `i` is `STAT[3 + i]`. -/

/-- `StatLine()` (R413). -/
def Ppu.statLine (p : Ppu) : Bool :=
  p.lcdOn &&
    ((bit p.statSel 3 && p.coincidence) || (bit p.statSel 2 && p.mode == .oamScan) ||
      (bit p.statSel 1 && p.mode == .vblank) || (bit p.statSel 0 && p.mode == .hblank))

/-- `StatUpdate()` (R413). -/
def Ppu.statUpdate (p : Ppu) : Ppu × BitVec 5 :=
  ({ p with statPrev := p.statLine }, reqIf (p.statLine && !p.statPrev) 1)

/-! OAM scan (R415). -/

/-- The height of a sprite (R401 bit 2). -/
def Ppu.spriteHeight (p : Ppu) : Nat := if bit p.lcdc 2 then 16 else 8

/-- Byte `k` of OAM entry `i` (R420). -/
def oamByte (m : List Host.Cell) (i : Fin 40) (k : Nat) : Byte := Memory.read m (0xFE00 + 4 * i.val + k)

/-- Whether the line `LY` is one of sprite `i`'s lines (R415). -/
def Ppu.spriteOnLine (p : Ppu) (m : List Host.Cell) (i : Fin 40) : Bool :=
  (oamByte m i 0).toNat ≤ p.ly.toNat + 16 && p.ly.toNat + 16 < (oamByte m i 0).toNat + p.spriteHeight

/-- `OamScan()` (R415): the first ten sprites, in OAM order, that have the line. -/
def Ppu.oamScan (p : Ppu) (m : List Host.Cell) : Ppu :=
  { p with lineSprites := ((List.finRange 40).filter (p.spriteOnLine m)).take 10 }

/-! Line composition (R421 to R430). -/

/-- `TilePixel(a, r, c)` (R421). -/
def tilePixel (m : List Host.Cell) (a r c : Nat) : BitVec 2 :=
  bit1 (bit (Memory.read m (a + 2 * r + 1)) (7 - c)) ++ bit1 (bit (Memory.read m (a + 2 * r)) (7 - c))

/-- `TileAddr(n)` (R421): the address of background or window tile `n`, by `LCDC[4]`. -/
def Ppu.tileAddr (p : Ppu) (n : Byte) : Nat :=
  if bit p.lcdc 4 then 0x8000 + 16 * n.toNat
  else if n.toNat < 128 then 0x9000 + 16 * n.toNat
  else 0x8800 + 16 * (n.toNat - 128)

/-- The base of a tile map (R401 bits 3 and 6, R422). -/
def mapBase (high : Bool) : Nat := if high then 0x9C00 else 0x9800

/-- The pixel at column `x`, row `y` of the plane whose map stands at `base` (R422, R426, R427). -/
def Ppu.planePixel (p : Ppu) (m : List Host.Cell) (base x y : Nat) : BitVec 2 :=
  tilePixel m (p.tileAddr (Memory.read m (base + 32 * (y / 8) + x / 8))) (y % 8) (x % 8)

/-- `BgPixel(x)` (R426). -/
def Ppu.bgPixel (p : Ppu) (m : List Host.Cell) (x : Nat) : BitVec 2 :=
  p.planePixel m (mapBase (bit p.lcdc 3)) ((p.scx.toNat + x) % 256) ((p.scy.toNat + p.ly.toNat) % 256)

/-- `WinPixel(x)` (R427), for `x + 7 >= WX`. -/
def Ppu.winPixel (p : Ppu) (m : List Host.Cell) (x : Nat) : BitVec 2 :=
  p.planePixel m (mapBase (bit p.lcdc 6)) (x + 7 - p.wx.toNat) p.winLine

/-- The shade `P[2c+1 : 2c]` (R406). -/
def paletteShade (pal : Byte) (c : BitVec 2) : Shade := pal.extractLsb' (2 * c.toNat) 2

/-- The winner so far in `SpritePixel` (R428): its `X`, its colour index and its attribute byte. -/
structure SpriteHit where
  x : Byte
  colour : BitVec 2
  attr : Byte
deriving DecidableEq, Repr

/-- The colour index of sprite `i` in screen column `x` (R428); 0 where it has none there. -/
def Ppu.spriteColour (p : Ppu) (m : List Host.Cell) (x : Nat) (i : Fin 40) : BitVec 2 :=
  let top := (oamByte m i 0).toNat
  let left := (oamByte m i 1).toNat
  let n := oamByte m i 2
  let a := oamByte m i 3
  let h := p.spriteHeight
  if x + 8 < left ∨ left + 7 < x + 8 ∨ p.ly.toNat + 16 < top ∨ top + h ≤ p.ly.toNat + 16 then 0
  else
    let col := if bit a 5 then 7 - (x + 8 - left) else x + 8 - left
    let row := if bit a 6 then h - 1 - (p.ly.toNat + 16 - top) else p.ly.toNat + 16 - top
    let tile := if h = 16 then n &&& 0xFE else n
    tilePixel m (0x8000 + 16 * tile.toNat) row col

/-- One round of the loop of `SpritePixel` (R428): a coloured pixel wins over one of greater `X`. -/
def Ppu.spriteRound (p : Ppu) (m : List Host.Cell) (x : Nat) (best : Option SpriteHit) (i : Fin 40) :
    Option SpriteHit :=
  let c := p.spriteColour m x i
  let left := oamByte m i 1
  if c = 0 then best
  else
    match best with
    | none => some ⟨left, c, oamByte m i 3⟩
    | some b => if left.toNat < b.x.toNat then some ⟨left, c, oamByte m i 3⟩ else some b

/-- `SpritePixel(x)` (R428). -/
def Ppu.spritePixel (p : Ppu) (m : List Host.Cell) (x : Nat) : Option SpriteHit :=
  if bit p.lcdc 1 then p.lineSprites.foldl (p.spriteRound m x) none else none

/-- `Merge(c, bgshade, s)` (R429). -/
def Ppu.merge (p : Ppu) (c : BitVec 2) (bgshade : Shade) (s : Option SpriteHit) : Shade :=
  match s with
  | none => bgshade
  | some b =>
    if bit p.lcdc 0 && bit b.attr 7 && c != 0 then bgshade
    else paletteShade (if bit b.attr 4 then p.obp1 else p.obp0) b.colour

/-- `win_on` (R425), read after `wy_latch` has been updated. -/
def Ppu.winOn (p : Ppu) : Bool :=
  bit p.lcdc 0 && bit p.lcdc 5 && p.wyLatch && decide (p.wx.toNat ≤ 166)

/-- The colour index of the background and window plane in column `x` (R425). -/
def Ppu.planeColour (p : Ppu) (m : List Host.Cell) (x : Nat) : BitVec 2 :=
  if !bit p.lcdc 0 then 0
  else if p.winOn && decide (p.wx.toNat ≤ x + 7) then p.winPixel m x
  else p.bgPixel m x

/-- `bgshade` (R425): white when `LCDC[0] = 0`, whatever `BGP` holds. -/
def Ppu.planeShade (p : Ppu) (c : BitVec 2) : Shade := if bit p.lcdc 0 then paletteShade p.bgp c else 0

/-- The shade of column `x` of the line (R425). -/
def Ppu.pixel (p : Ppu) (m : List Host.Cell) (x : Nat) : Shade :=
  p.merge (p.planeColour m x) (p.planeShade (p.planeColour m x)) (p.spritePixel m x)

/-- `if LY = WY then wy_latch <- 1`, the head of `RenderLine()` (R425). -/
def Ppu.latchWy (p : Ppu) : Ppu := { p with wyLatch := p.wyLatch || p.ly == p.wy }

/-- The rest of `RenderLine()` (R425): row `LY` of the framebuffer, and the window line counter. -/
def Ppu.composeLine (p : Ppu) (m : List Host.Cell) : Ppu :=
  { p with
    framebuffer := p.framebuffer.setIfInBounds p.ly.toNat (Vector.ofFn (fun x : Fin 160 => p.pixel m x.val))
    winLine := if p.winOn then p.winLine + 1 else p.winLine }

/-- `RenderLine()` (R425). -/
def Ppu.renderLine (p : Ppu) (m : List Host.Cell) : Ppu := p.latchWy.composeLine m

/-! The mode state machine (R410 to R414). -/

/-- `LineEnd()` (R412), with the mask of its VBlank request. -/
def Ppu.lineEnd (p : Ppu) : Ppu × BitVec 5 :=
  let ly := p.ly + 1
  if ly = 154 then
    ({ p with dot := 0, ly := 0, winLine := 0, wyLatch := false, mode := .oamScan }, 0)
  else if ly = 144 then
    ({ p with dot := 0, ly := ly, mode := .vblank, frameDone := true }, reqMask 0)
  else if ly.toNat < 144 then
    ({ p with dot := 0, ly := ly, mode := .oamScan }, 0)
  else
    ({ p with dot := 0, ly := ly }, 0)

/-- What `PPUTick1()` does at the dot it has reached (R411). -/
def Ppu.dotAction (p : Ppu) (m : List Host.Cell) : Ppu × BitVec 5 :=
  if p.dot = 80 ∧ p.ly.toNat < 144 then ({ p.oamScan m with mode := .draw }, 0)
  else if p.dot = 252 ∧ p.ly.toNat < 144 then ({ p.renderLine m with mode := .hblank }, 0)
  else if p.dot = 456 then p.lineEnd
  else (p, 0)

/-- `PPUTick1()` (R411). -/
def Ppu.tick1 (p : Ppu) (m : List Host.Cell) : Ppu × BitVec 5 :=
  if p.lcdOn then
    let q := Ppu.dotAction { p with dot := p.dot + 1 } m
    (q.1.statUpdate.1, q.2 ||| q.1.statUpdate.2)
  else (p, 0)

/-- `LcdOff()` (R414). -/
def Ppu.lcdOff (p : Ppu) : Ppu :=
  { p with ly := 0, mode := .hblank, dot := 0, winLine := 0, wyLatch := false, lineSprites := [] }

/-- `LcdOn()` (R414). -/
def Ppu.startLcd (p : Ppu) : Ppu := { p with ly := 0, mode := .oamScan, dot := 0 }

/-! Register reads and writes (R401 to R408). `DMA` is written by the bus (20_memory.md R75). -/

/-- The PPU's registers. -/
inductive PpuReg where
  | lcdc
  | stat
  | scy
  | scx
  | ly
  | lyc
  | bgp
  | obp0
  | obp1
  | wy
  | wx
deriving DecidableEq, Repr

/-- A read of `STAT` (R402): bit 7 reads 1, bits 2 to 0 are derived. -/
def Ppu.readStat (p : Ppu) : Byte := (1 : BitVec 1) ++ p.statSel ++ bit1 p.coincidence ++ p.mode.code

/-- A register read (R401 to R407). -/
def Ppu.read (p : Ppu) : PpuReg → Byte
  | .lcdc => p.lcdc
  | .stat => p.readStat
  | .scy => p.scy
  | .scx => p.scx
  | .ly => p.ly
  | .lyc => p.lyc
  | .bgp => p.bgp
  | .obp0 => p.obp0
  | .obp1 => p.obp1
  | .wy => p.wy
  | .wx => p.wx

/-- A write of `LCDC` (R401): the LCD is switched off or on when bit 7 changes, then `StatUpdate()`. -/
def Ppu.writeLcdc (p : Ppu) (v : Byte) : Ppu × BitVec 5 :=
  let q := { p with lcdc := v }
  if p.lcdOn && !bit v 7 then q.lcdOff.statUpdate
  else if !p.lcdOn && bit v 7 then q.startLcd.statUpdate
  else q.statUpdate

/-- A write of `STAT` (R402): bits 6 to 3 are stored, then `StatUpdate()`. -/
def Ppu.writeStat (p : Ppu) (v : Byte) : Ppu × BitVec 5 :=
  Ppu.statUpdate { p with statSel := v.extractLsb' 3 4 }

/-- A write of `LYC` (R405). -/
def Ppu.writeLyc (p : Ppu) (v : Byte) : Ppu × BitVec 5 := Ppu.statUpdate { p with lyc := v }

/-- A register write (R401 to R407), with the mask of its request. A write of `LY` is discarded (R404). -/
def Ppu.write (p : Ppu) (r : PpuReg) (v : Byte) : Ppu × BitVec 5 :=
  match r with
  | .lcdc => p.writeLcdc v
  | .stat => p.writeStat v
  | .scy => ({ p with scy := v }, 0)
  | .scx => ({ p with scx := v }, 0)
  | .ly => (p, 0)
  | .lyc => p.writeLyc v
  | .bgp => ({ p with bgp := v }, 0)
  | .obp0 => ({ p with obp0 := v }, 0)
  | .obp1 => ({ p with obp1 := v }, 0)
  | .wy => ({ p with wy := v }, 0)
  | .wx => ({ p with wx := v }, 0)

end Sys2Proof.Machine
end

