-- ==== Sys2Proof/Machine/Timer.lean ====
section
/-! DEFINITION. The timer (60_exceptions.md R335 to R340). An operation that can request an interrupt answers the mask
of its requests beside the new timer. -/

namespace Sys2Proof.Machine

/-- The bit of `sysclk` that `TAC[1:0]` selects (R335, R339). -/
def timerBit (sel : BitVec 2) : Nat :=
  match sel with
  | 0b00 => 9
  | 0b01 => 3
  | 0b10 => 5
  | 0b11 => 7

/-- `TimerSignal()` (R335). -/
def Timer.signal (t : Timer) : Bool := bit t.tac 2 && bit t.sysclk (timerBit (t.tac.extractLsb' 0 2))

/-- `TimaIncrement()` (R335). -/
def Timer.timaIncrement (t : Timer) : Timer :=
  if t.tima = 0xFF then { t with tima := 0, reload := 4 } else { t with tima := t.tima + 1 }

/-- `TimaIncrement()` when the timer signal has fallen: it was `before` and is now 0 (R339, R340). -/
def Timer.edge (t : Timer) (before : Bool) : Timer :=
  if before && !t.signal then t.timaIncrement else t

/-- The reload countdown at the head of `TimerTick1()` (R340): the new timer and whether the reload happens. -/
def Timer.countdown (t : Timer) : Timer × Bool :=
  match t.reload with
  | 0 => (t, false)
  | 1 => ({ t with reload := 0, tima := t.tma }, true)
  | n + 2 => ({ t with reload := n + 1 }, false)

/-- `sysclk <- (sysclk + 1) mod 2^16`, with the falling edge it may cause (R340). -/
def Timer.count (t : Timer) : Timer :=
  Timer.edge { t with sysclk := t.sysclk + 1 } t.signal

/-- `TimerTick1()` (R340). -/
def Timer.tick1 (t : Timer) : Timer × BitVec 5 :=
  (t.countdown.1.count, reqIf t.countdown.2 2)

/-- A read of `DIV` (R336). -/
def Timer.readDiv (t : Timer) : Byte := hi t.sysclk

/-- A write of `DIV` (R336), the timer's part: the value written is ignored. -/
def Timer.writeDiv (t : Timer) : Timer :=
  if t.signal then Timer.timaIncrement { t with sysclk := 0 } else { t with sysclk := 0 }

/-- Whether a write of `DIV` clocks the frame sequencer (R336): bit 12 falls. -/
def Timer.divClocksSequencer (t : Timer) : Bool := bit t.sysclk 12

/-- A write of `TIMA` (R337): it cancels a reload under way. -/
def Timer.writeTima (t : Timer) (v : Byte) : Timer := { t with tima := v, reload := 0 }

/-- A write of `TMA` (R338). -/
def Timer.writeTma (t : Timer) (v : Byte) : Timer := { t with tma := v }

/-- A read of `TAC` (R339): `0xF8 | TAC[2:0]`. -/
def Timer.readTac (t : Timer) : Byte := (0b11111 : BitVec 5) ++ t.tac

/-- A write of `TAC` (R339), with the falling edge it may cause. -/
def Timer.writeTac (t : Timer) (v : Byte) : Timer :=
  Timer.edge { t with tac := v.extractLsb' 0 3 } t.signal

end Sys2Proof.Machine
end

