-- ==== Sys2Proof/Machine/Bus.lean ====
section
/-! DEFINITION. The bus (20_memory.md): the address map, the device register map (10_state.md R34), the one read and
the one write primitive, and OAM DMA. -/

namespace Sys2Proof.Machine

/-- The regions of R60; the two ROM windows are one region, which the cartridge tells apart. -/
inductive Region where
  | rom
  | vram
  | cartRam
  | wram
  | echo
  | oam
  | unusable
  | io
  | hram
  | ie
deriving DecidableEq, Repr

/-- The region of an address (R60). -/
def regionOf (a : Word) : Region :=
  if a.toNat < 0x8000 then .rom
  else if a.toNat < 0xA000 then .vram
  else if a.toNat < 0xC000 then .cartRam
  else if a.toNat < 0xE000 then .wram
  else if a.toNat < 0xFE00 then .echo
  else if a.toNat < 0xFEA0 then .oam
  else if a.toNat < 0xFF00 then .unusable
  else if a.toNat < 0xFF80 then .io
  else if a.toNat < 0xFFFF then .hram
  else .ie

/-- The mapped locations of `FF00–FF7F`. -/
inductive IoReg where
  | p1
  | sb
  | sc
  | div
  | tima
  | tma
  | tac
  | iflag
  | apu (r : ApuReg)
  | wave
  | ppu (r : PpuReg)
  | dma
deriving DecidableEq, Repr

/-- The joypad, serial stub, timer and `IF` rows of the device register map (R34). -/
def cpuIoTable : List (Nat × IoReg) :=
  [(0xFF00, IoReg.p1),
    (0xFF01, IoReg.sb),
    (0xFF02, IoReg.sc),
    (0xFF04, IoReg.div),
    (0xFF05, IoReg.tima),
    (0xFF06, IoReg.tma),
    (0xFF07, IoReg.tac),
    (0xFF0F, IoReg.iflag)]

/-- The APU rows of the device register map (R34). -/
def apuIoTable : List (Nat × IoReg) :=
  [(0xFF10, IoReg.apu .nr10),
    (0xFF11, IoReg.apu .nr11),
    (0xFF12, IoReg.apu .nr12),
    (0xFF13, IoReg.apu .nr13),
    (0xFF14, IoReg.apu .nr14),
    (0xFF16, IoReg.apu .nr21),
    (0xFF17, IoReg.apu .nr22),
    (0xFF18, IoReg.apu .nr23),
    (0xFF19, IoReg.apu .nr24),
    (0xFF1A, IoReg.apu .nr30),
    (0xFF1B, IoReg.apu .nr31),
    (0xFF1C, IoReg.apu .nr32),
    (0xFF1D, IoReg.apu .nr33),
    (0xFF1E, IoReg.apu .nr34),
    (0xFF20, IoReg.apu .nr41),
    (0xFF21, IoReg.apu .nr42),
    (0xFF22, IoReg.apu .nr43),
    (0xFF23, IoReg.apu .nr44),
    (0xFF24, IoReg.apu .nr50),
    (0xFF25, IoReg.apu .nr51),
    (0xFF26, IoReg.apu .nr52)]

/-- The PPU and OAM DMA rows of the device register map (R34). -/
def ppuIoTable : List (Nat × IoReg) :=
  [(0xFF40, IoReg.ppu .lcdc),
    (0xFF41, IoReg.ppu .stat),
    (0xFF42, IoReg.ppu .scy),
    (0xFF43, IoReg.ppu .scx),
    (0xFF44, IoReg.ppu .ly),
    (0xFF45, IoReg.ppu .lyc),
    (0xFF46, IoReg.dma),
    (0xFF47, IoReg.ppu .bgp),
    (0xFF48, IoReg.ppu .obp0),
    (0xFF49, IoReg.ppu .obp1),
    (0xFF4A, IoReg.ppu .wy),
    (0xFF4B, IoReg.ppu .wx)]

/-- The device register map of R34 without its rows for wave RAM and `IE`. -/
def ioTable : List (Nat × IoReg) := cpuIoTable ++ apuIoTable ++ ppuIoTable

/-- The mapped location at an address of `FF00–FF7F`, if there is one (R70); `FF30–FF3F` is wave RAM. -/
def ioReg (a : Word) : Option IoReg :=
  if 0xFF30 ≤ a.toNat ∧ a.toNat ≤ 0xFF3F then some .wave else ioTable.lookup a.toNat

/-- A read of a mapped location. Reads change nothing (R79). -/
def State.readIo (s : State) (a : Word) (r : IoReg) : Byte :=
  match r with
  | .p1 => s.joypad.readP1
  | .sb => s.serial.sb
  | .sc => s.serial.readSc
  | .div => s.timer.readDiv
  | .tima => s.timer.tima
  | .tma => s.timer.tma
  | .tac => s.timer.readTac
  | .iflag => s.irq.readIf
  | .apu r => s.apu.read r
  | .wave => Memory.read s.mem a.toNat
  | .ppu r => s.ppu.read r
  | .dma => s.ppu.dma

/-- A read of `FF00–FF7F` (R70): an unmapped address reads `0xFF`. -/
def State.readIoPage (s : State) (a : Word) : Byte :=
  match ioReg a with
  | some r => s.readIo a r
  | none => 0xFF

/-- The read of the bus, with the locks of R73 (`locked = true`, the CPU's) or without them (`false`, R75). -/
def State.readBus (s : State) (locked : Bool) (a : Word) : Byte :=
  match regionOf a with
  | .rom => s.cart.readRom a.toNat
  | .vram => if locked && s.ppu.vramLocked then 0xFF else Memory.read s.mem a.toNat
  | .cartRam => s.cart.readRam a.toNat
  | .wram => Memory.read s.mem a.toNat
  | .echo => Memory.read s.mem (a.toNat - 0x2000)
  | .oam => if locked && s.ppu.oamLocked then 0xFF else Memory.read s.mem a.toNat
  | .unusable => 0xFF
  | .io => s.readIoPage a
  | .hram => Memory.read s.mem a.toNat
  | .ie => s.irq.readIe

/-- `read8(addr)`, which is `MemRead(addr, 1)` (R61). -/
def State.read8 (s : State) (a : Word) : Byte := s.readBus true a

/-- `RawRead(a)` (R75): `read8` without the locks. -/
def State.rawRead (s : State) (a : Word) : Byte := s.readBus false a

/-- `Request` of every source of the mask `m` (60_exceptions.md R311). -/
def State.request (s : State) (m : BitVec 5) : State := s.setIrq (s.irq.raise m)

/-- The store of one byte in the machine's own memory. -/
def State.poke (s : State) (a : Nat) (v : Byte) : State := s.setMem (Memory.write s.mem a v)

/-- The loop of OAM DMA (R75): `n` bytes are left to copy, the next is byte `i` of the page. -/
def State.dmaLoop : Nat → Nat → Byte → State → State
  | 0, _, _, s => s
  | n + 1, i, page, s =>
    State.dmaLoop n (i + 1) page (s.poke (0xFE00 + i) (s.rawRead (hiLo page 0 + BitVec.ofNat 16 i)))

/-- A write of `FF46` (R75): the register, then the copy of 160 bytes into OAM. -/
def State.oamDma (s : State) (v : Byte) : State :=
  State.dmaLoop 160 0 v (s.setPpu { s.ppu with dma := v })

/-- A write of `DIV` (60_exceptions.md R336): the timer, and the frame sequencer when bit 12 falls. -/
def State.writeDiv (s : State) : State :=
  (s.setTimer s.timer.writeDiv).setApu
    (if s.timer.divClocksSequencer then s.apu.sequencerClock else s.apu)

/-- A write of a mapped location, with its reaction (R62). -/
def State.writeIo (s : State) (a : Word) (r : IoReg) (v : Byte) : State :=
  match r with
  | .p1 => (s.setJoypad (s.joypad.writeP1 v).1).request (s.joypad.writeP1 v).2
  | .sb => s.setSerial (s.serial.writeSb v)
  | .sc => s.setSerial (s.serial.writeSc v)
  | .div => s.writeDiv
  | .tima => s.setTimer (s.timer.writeTima v)
  | .tma => s.setTimer (s.timer.writeTma v)
  | .tac => s.setTimer (s.timer.writeTac v)
  | .iflag => s.setIrq (s.irq.writeIf v)
  | .apu r => s.setApu (s.apu.write r v)
  | .wave => s.poke a.toNat v
  | .ppu r => (s.setPpu (s.ppu.write r v).1).request (s.ppu.write r v).2
  | .dma => s.oamDma v

/-- A write of `FF00–FF7F` (R70): an unmapped address drops it. -/
def State.writeIoPage (s : State) (a : Word) (v : Byte) : State :=
  match ioReg a with
  | some r => s.writeIo a r v
  | none => s

/-- A write of `0000–7FFF` (R63): the cartridge's control registers. A latch of the MBC3 clock draws `RTC_NOW`. -/
def State.writeRomArea (s : State) (a : Word) (v : Byte) : State :=
  (s.setCart (s.cart.writeControl a.toNat v (Config.rtcNow s.draws))).setDraws
    (if s.cart.latches a.toNat v then s.draws + 1 else s.draws)

/-- `write8(addr, value)`, which is `MemWrite(addr, 1, value)` (R62). -/
def State.write8 (s : State) (a : Word) (v : Byte) : State :=
  match regionOf a with
  | .rom => s.writeRomArea a v
  | .vram => if s.ppu.vramLocked then s else s.poke a.toNat v
  | .cartRam => s.setCart (s.cart.writeRam a.toNat v)
  | .wram => s.poke a.toNat v
  | .echo => s.poke (a.toNat - 0x2000) v
  | .oam => if s.ppu.oamLocked then s else s.poke a.toNat v
  | .unusable => s
  | .io => s.writeIoPage a v
  | .hram => s.poke a.toNat v
  | .ie => s.setIrq (s.irq.writeIe v)

end Sys2Proof.Machine
end

