-- ==== Sys2Proof/Machine/Flags.lean ====
section
/-! DEFINITION. The arithmetic of the instructions and every flag computation: 42_alu8.md R176 to R192, 43_alu16.md
R211 to R214, 41_load16_stack.md R164, 44_rotate_shift_bit.md R221 to R233. Sums and comparisons are on unbounded
numbers, as the rules write them. -/

namespace Sys2Proof.Machine

/-- The four flags (10_state.md R22). -/
structure Flags where
  z : Bool
  n : Bool
  h : Bool
  c : Bool
deriving DecidableEq, Repr

/-- A result of the 8-bit unit with the flags it gives. -/
structure AluOut where
  value : Byte
  flags : Flags
deriving DecidableEq, Repr

/-- `v[3:0]` as a number. -/
def nibble (v : Byte) : Nat := v.toNat % 16

/-- `A + v + c` (R176, R177). -/
def addWithCarry (a v : Byte) (c : Bool) : AluOut :=
  let r := BitVec.ofNat 8 (a.toNat + v.toNat + c.toNat)
  ⟨r, ⟨r == 0, false, decide (0xF < nibble a + nibble v + c.toNat), decide (0xFF < a.toNat + v.toNat + c.toNat)⟩⟩

/-- `A - v - c` (R178, R179): the carries are borrows. -/
def subWithBorrow (a v : Byte) (c : Bool) : AluOut :=
  let r := a - v - BitVec.ofNat 8 c.toNat
  ⟨r, ⟨r == 0, true, decide (nibble a < nibble v + c.toNat), decide (a.toNat < v.toNat + c.toNat)⟩⟩

/-- `AND` (R180). -/
def andOut (a v : Byte) : AluOut := ⟨a &&& v, ⟨a &&& v == 0, false, true, false⟩⟩

/-- `XOR` (R181). -/
def xorOut (a v : Byte) : AluOut := ⟨a ^^^ v, ⟨a ^^^ v == 0, false, false, false⟩⟩

/-- `OR` (R182). -/
def orOut (a v : Byte) : AluOut := ⟨a ||| v, ⟨a ||| v == 0, false, false, false⟩⟩

/-- The eight accumulator operations (R176 to R183); `CP` is `SUB` with the accumulator kept. -/
def aluOut (op : AluOp) (a v : Byte) (c : Bool) : AluOut :=
  match op with
  | .add => addWithCarry a v false
  | .adc => addWithCarry a v c
  | .sub => subWithBorrow a v false
  | .sbc => subWithBorrow a v c
  | .and => andOut a v
  | .xor => xorOut a v
  | .or => orOut a v
  | .cp => ⟨a, (subWithBorrow a v false).flags⟩

/-- `INC` on 8 bits (R184, R185); the carry is kept. -/
def incOut (v : Byte) (f : Flags) : AluOut := ⟨v + 1, ⟨v + 1 == 0, false, nibble v == 0xF, f.c⟩⟩

/-- `DEC` on 8 bits (R186, R187); the carry is kept. -/
def decOut (v : Byte) (f : Flags) : AluOut := ⟨v - 1, ⟨v - 1 == 0, true, nibble v == 0, f.c⟩⟩

/-- The accumulator after the first correction of `DAA` following an addition (R188). -/
def daaHigh (a : Byte) (c : Bool) : Byte := if c || decide (0x99 < a.toNat) then a + 0x60 else a

/-- `DAA` (R188). -/
def daaOut (a : Byte) (f : Flags) : AluOut :=
  if f.n then
    let a1 := if f.c then a - 0x60 else a
    let a2 := if f.h then a1 - 0x06 else a1
    ⟨a2, ⟨a2 == 0, true, false, f.c⟩⟩
  else
    let a1 := daaHigh a f.c
    let a2 := if f.h || decide (0x9 < nibble a1) then a1 + 0x06 else a1
    ⟨a2, ⟨a2 == 0, false, false, f.c || decide (0x99 < a.toNat)⟩⟩

/-- `CPL` (R189). -/
def cplOut (a : Byte) (f : Flags) : AluOut := ⟨~~~a, { f with n := true, h := true }⟩

/-- The flags of `SCF` (R190). -/
def scfFlags (f : Flags) : Flags := ⟨f.z, false, false, true⟩

/-- The flags of `CCF` (R191). -/
def ccfFlags (f : Flags) : Flags := ⟨f.z, false, false, !f.c⟩

/-- The flags of `ADD HL,rr` (R211): carries out of bits 11 and 15; the zero flag is kept. -/
def add16Flags (x v : Word) (f : Flags) : Flags :=
  ⟨f.z, false, decide (0xFFF < x.toNat % 4096 + v.toNat % 4096), decide (0xFFFF < x.toNat + v.toNat)⟩

/-- The flags of `ADD SP,e` and `LD HL,SP+e` (R214, R164): the carries of the unsigned addition to the low byte. -/
def spFlags (sp : Word) (e : Byte) : Flags :=
  ⟨false, false, decide (0xF < nibble (lo sp) + nibble e), decide (0xFF < (lo sp).toNat + e.toNat)⟩

/-- The result and the bit shifted out of a rotate or shift (R225 to R232); `SWAP` shifts no bit out. -/
def rotValue (op : RotOp) (v : Byte) (c : Bool) : Byte × Bool :=
  match op with
  | .rlc => (v.extractLsb' 0 7 ++ bit1 (bit v 7), bit v 7)
  | .rrc => (bit1 (bit v 0) ++ v.extractLsb' 1 7, bit v 0)
  | .rl => (v.extractLsb' 0 7 ++ bit1 c, bit v 7)
  | .rr => (bit1 c ++ v.extractLsb' 1 7, bit v 0)
  | .sla => (v.extractLsb' 0 7 ++ (0 : BitVec 1), bit v 7)
  | .sra => (bit1 (bit v 7) ++ v.extractLsb' 1 7, bit v 0)
  | .swap => (v.extractLsb' 0 4 ++ v.extractLsb' 4 4, false)
  | .srl => ((0 : BitVec 1) ++ v.extractLsb' 1 7, bit v 0)

/-- A rotate or shift of the `CB` group (R225 to R232): the zero flag is that of the result. -/
def rotOut (op : RotOp) (v : Byte) (c : Bool) : AluOut :=
  let r := rotValue op v c
  ⟨r.1, ⟨r.1 == 0, false, false, r.2⟩⟩

/-- A rotate of the accumulator (R221 to R224): the zero flag is cleared. -/
def rotAccOut (op : RotOp) (v : Byte) (c : Bool) : AluOut :=
  let r := rotValue op v c
  ⟨r.1, ⟨false, false, false, r.2⟩⟩

/-- The flags of `BIT y` (R233). -/
def bitFlags (y : Fin 8) (v : Byte) (f : Flags) : Flags := ⟨!bit v y.val, false, true, f.c⟩

/-- The result of `RES y` (R234). -/
def resValue (y : Fin 8) (v : Byte) : Byte := v &&& ~~~((1 : Byte) <<< y.val)

/-- The result of `SET y` (R235). -/
def setValue (y : Fin 8) (v : Byte) : Byte := v ||| ((1 : Byte) <<< y.val)

end Sys2Proof.Machine
end

