-- ==== Sys2Proof/Machine/Operands.lean ====
section
/-! DEFINITION. The operand forms: registers, pairs, the flags and `F`, the memory byte at `HL`, conditions
(00_scope.md R12, 10_state.md R20 to R22). -/

namespace Sys2Proof.Machine

/-- The four flags. -/
def Cpu.flags (c : Cpu) : Flags := ⟨c.zf, c.nf, c.hf, c.cf⟩

/-- A write of the four flags. -/
def Cpu.setFlags (c : Cpu) (f : Flags) : Cpu := { c with zf := f.z, nf := f.n, hf := f.h, cf := f.c }

/-- `F` as a byte (R22): bits 3 to 0 are zero. -/
def Cpu.f (c : Cpu) : Byte := bit1 c.zf ++ bit1 c.nf ++ bit1 c.hf ++ bit1 c.cf ++ (0 : BitVec 4)

/-- `F <- v & 0xF0` (R22). -/
def Cpu.setF (c : Cpu) (v : Byte) : Cpu := { c with zf := bit v 7, nf := bit v 6, hf := bit v 5, cf := bit v 4 }

/-- A register. -/
def Cpu.reg (c : Cpu) (r : Reg8) : Byte :=
  match r with
  | .b => c.b
  | .c => c.c
  | .d => c.d
  | .e => c.e
  | .h => c.h
  | .l => c.l
  | .a => c.a

/-- A write of a register. -/
def Cpu.setReg (c : Cpu) (r : Reg8) (v : Byte) : Cpu :=
  match r with
  | .b => { c with b := v }
  | .c => { c with c := v }
  | .d => { c with d := v }
  | .e => { c with e := v }
  | .h => { c with h := v }
  | .l => { c with l := v }
  | .a => { c with a := v }

/-- `BC` (R21). -/
def Cpu.bc (c : Cpu) : Word := hiLo c.b c.c

/-- `DE` (R21). -/
def Cpu.de (c : Cpu) : Word := hiLo c.d c.e

/-- `HL` (R21). -/
def Cpu.hl (c : Cpu) : Word := hiLo c.h c.l

/-- `AF` (R21). -/
def Cpu.af (c : Cpu) : Word := hiLo c.a c.f

/-- `HL <- v`. -/
def Cpu.setHL (c : Cpu) (v : Word) : Cpu := { c with h := hi v, l := lo v }

/-- `R16[p]`. -/
def Cpu.pair (c : Cpu) (p : Reg16) : Word :=
  match p with
  | .bc => c.bc
  | .de => c.de
  | .hl => c.hl
  | .sp => c.sp

/-- `R16[p] <- v` (R21: both halves are written). -/
def Cpu.setPair (c : Cpu) (p : Reg16) (v : Word) : Cpu :=
  match p with
  | .bc => { c with b := hi v, c := lo v }
  | .de => { c with d := hi v, e := lo v }
  | .hl => c.setHL v
  | .sp => { c with sp := v }

/-- `R16S[p]`. -/
def Cpu.stackPair (c : Cpu) (p : StackReg) : Word :=
  match p with
  | .bc => c.bc
  | .de => c.de
  | .hl => c.hl
  | .af => c.af

/-- `R16S[p] <- v`; `AF` drops the low nibble (41_load16_stack.md R167). -/
def Cpu.setStackPair (c : Cpu) (p : StackReg) (v : Word) : Cpu :=
  match p with
  | .bc => { c with b := hi v, c := lo v }
  | .de => { c with d := hi v, e := lo v }
  | .hl => c.setHL v
  | .af => Cpu.setF { c with a := hi v } (lo v)

/-- `CC[f]` (R12). -/
def Cpu.holds (c : Cpu) (cc : Cond) : Bool :=
  match cc with
  | .nz => !c.zf
  | .z => c.zf
  | .nc => !c.cf
  | .c => c.cf

/-- `R8[i]` read (R12): a register, or `MemRead(HL, 1)`. -/
def State.readOpd (s : State) (o : Opd8) : Byte :=
  match o with
  | .reg r => s.cpu.reg r
  | .memHL => s.read8 s.cpu.hl

/-- `R8[i] <- v` (R12): a register, or `MemWrite(HL, 1, v)`. -/
def State.writeOpd (s : State) (o : Opd8) (v : Byte) : State :=
  match o with
  | .reg r => s.setCpu (s.cpu.setReg r v)
  | .memHL => s.write8 s.cpu.hl v

/-- A write of the four flags. -/
def State.setFlags (s : State) (f : Flags) : State := s.setCpu (s.cpu.setFlags f)

/-- A write of the accumulator and the flags. -/
def State.setAccFlags (s : State) (o : AluOut) : State := s.setCpu ((s.cpu.setReg .a o.value).setFlags o.flags)

/-- The address `0xFF00 + n` of `LDH` (40_load8.md R142). -/
def highPage (n : Byte) : Word := hiLo 0xFF n

end Sys2Proof.Machine
end

