-- ==== Sys2Proof/Machine/Ops.lean ====
section
/-! DEFINITION. The shared operations: fetching (00_scope.md R13, 60_exceptions.md R301), the stack (R13), entering an
interrupt handler and returning from it (60_exceptions.md R315, R316), the freeze (46_system_control.md R281) and the
wait of `HALT` and `STOP` (R272, R273). -/

namespace Sys2Proof.Machine

/-- The program counter after `Fetch8()` (R13): a set `halt_bug` is consumed and holds it back once. -/
def Cpu.afterFetch (c : Cpu) : Cpu :=
  if c.haltBug then { c with haltBug := false } else { c with pc := c.pc + 1 }

/-- `Fetch8()` (R13): the byte and the state after it. -/
def State.fetch8 (s : State) : Byte × State := (s.read8 s.cpu.pc, s.setCpu s.cpu.afterFetch)

/-- `PC <- v`. -/
def State.jump (s : State) (v : Word) : State := s.setCpu { s.cpu with pc := v }

/-- `SP <- v`. -/
def State.setSp (s : State) (v : Word) : State := s.setCpu { s.cpu with sp := v }

/-- The instruction at `PC` with its operands, and the state after all its bytes have been fetched (R301, R14). The
two bytes after the opcode are read before it is known whether the instruction has them; a read changes nothing
(20_memory.md R79; log entry 13). -/
def State.fetchInstr (s : State) : Instr × State :=
  let op := s.fetch8
  let pc := op.2.cpu.pc
  (decodeOp op.1 (op.2.read8 pc) (op.2.read8 (pc + 1)), op.2.jump (pc + BitVec.ofNat 16 (lengthOf op.1 - 1)))

/-- One byte write of a push (R13): `SP <- SP - 1; MemWrite(SP, 1, v)`. -/
def State.pushByte (s : State) (v : Byte) : State := (s.setSp (s.cpu.sp - 1)).write8 (s.cpu.sp - 1) v

/-- `Push16(v)` (R13): the high byte first. -/
def State.push16 (s : State) (v : Word) : State := (s.pushByte (hi v)).pushByte (lo v)

/-- The value that `Pop16()` reads (R13). -/
def State.top16 (s : State) : Word := hiLo (s.read8 (s.cpu.sp + 1)) (s.read8 s.cpu.sp)

/-- `Pop16()` on `SP` (R13). -/
def State.dropTop16 (s : State) : State := s.setSp (s.cpu.sp + 2)

/-- `MemWrite(a, 2, v)` (R13): the low byte first. -/
def State.write16 (s : State) (a v : Word) : State := (s.write8 a (lo v)).write8 (a + 1) (hi v)

/-- The vector of source `b` (R312): `0x40 + 8*bit`. -/
def vectorOf (b : Nat) : Word := BitVec.ofNat 16 (0x40 + 8 * b)

/-- The return address that a dispatch pushes (R315, R323): `PC`, or with a set `halt_bug` and the parameter
`EI_HALT_RETURN` at `at_halt` the address of the `HALT` itself (log entry 3). -/
def Cpu.returnAddress (c : Cpu) : Word :=
  if c.haltBug && Config.eiHaltReturn == .atHalt then c.pc - 1 else c.pc

/-- What a dispatch does to the CPU's hidden bits (R315). -/
def Cpu.enter (c : Cpu) : Cpu := { c with ime := false, halted := false, stopped := false, haltBug := false }

/-- TAKING AN INTERRUPT (R315): the least pending source is cleared in `IF`, `IME` and the wait bits are cleared, `PC`
is pushed, and `PC` goes to the vector of the source chosen before the pushes (R314). -/
def State.service (s : State) : State :=
  let b := s.irq.first
  (((s.setIrq (s.irq.clear b)).setCpu s.cpu.enter).push16 s.cpu.returnAddress).jump (vectorOf b)

/-- `RET` (45_control_flow.md R258): `PC <- Pop16()`. -/
def State.returnFrom (s : State) : State := s.dropTop16.jump s.top16

/-- RETURNING FROM AN INTERRUPT, `RETI` (R260, R316): `RET`, then `IME <- 1`. -/
def State.returnFromInterrupt (s : State) : State :=
  s.returnFrom.setCpu { s.returnFrom.cpu with ime := true }

/-- TAKING THE FREEZE (R310, R281): `frozen <- 1`, nothing else. -/
def State.freeze (s : State) : State := s.setCpu { s.cpu with frozen := true }

/-- Entering a wait (R272, R273): with `IME = 0` and an interrupt pending `halt_bug` is set, else the wait bit. -/
def Cpu.haltOrBug (c : Cpu) (pending : Bool) : Cpu :=
  if !c.ime && pending then { c with haltBug := true } else { c with halted := true }

/-- As `Cpu.haltOrBug`, for `STOP` (R273). -/
def Cpu.stopOrBug (c : Cpu) (pending : Bool) : Cpu :=
  if !c.ime && pending then { c with haltBug := true } else { c with stopped := true }

/-- A call (45_control_flow.md R256, R262): `Push16(PC); PC <- target`. -/
def State.call (s : State) (target : Word) : State := (s.push16 s.cpu.pc).jump target

/-- `PC <- PC + sext_16(e)` (R254). -/
def State.jumpRelative (s : State) (e : Byte) : State := s.jump (s.cpu.pc + sext16 e)

end Sys2Proof.Machine
end

