-- ==== Sys2Proof/Machine/Alu16.lean ====
section
/-! DEFINITION. The meanings of the 16-bit arithmetic (43_alu16.md R210 to R215).
Each starts after the bytes of its instruction have been fetched (00_scope.md R14) and records its cost in m-cycles
(70_reset_and_hazards.md R620). -/

namespace Sys2Proof.Machine

/-- `ADD HL,rr` (R211). -/
def addHL (p : Reg16) (s : State) : Result :=
  .next (((s.setCpu (s.cpu.setHL (s.cpu.hl + s.cpu.pair p))).setFlags
    (add16Flags s.cpu.hl (s.cpu.pair p) s.cpu.flags)).cost 2)

/-- `R16[p] <- R16[p] + d` (R212, R213): no flag is written. -/
def stepPair (p : Reg16) (d : Word) (s : State) : Result :=
  .next ((s.setCpu (s.cpu.setPair p (s.cpu.pair p + d))).cost 2)

/-- `INC BC` (R212). -/
def execIncBC (s : State) : Result := stepPair .bc 1 s

/-- `ADD HL,BC` (R211). -/
def execAddHLBC (s : State) : Result := addHL .bc s

/-- `DEC BC` (R213). -/
def execDecBC (s : State) : Result := stepPair .bc (-1) s

/-- `INC DE` (R212). -/
def execIncDE (s : State) : Result := stepPair .de 1 s

/-- `ADD HL,DE` (R211). -/
def execAddHLDE (s : State) : Result := addHL .de s

/-- `DEC DE` (R213). -/
def execDecDE (s : State) : Result := stepPair .de (-1) s

/-- `INC HL` (R212). -/
def execIncHL (s : State) : Result := stepPair .hl 1 s

/-- `ADD HL,HL` (R211). -/
def execAddHLHL (s : State) : Result := addHL .hl s

/-- `DEC HL` (R213). -/
def execDecHL (s : State) : Result := stepPair .hl (-1) s

/-- `INC SP` (R212). -/
def execIncSP (s : State) : Result := stepPair .sp 1 s

/-- `ADD HL,SP` (R211). -/
def execAddHLSP (s : State) : Result := addHL .sp s

/-- `DEC SP` (R213). -/
def execDecSP (s : State) : Result := stepPair .sp (-1) s

/-- `ADD SP,e` (R214). -/
def execAddSPRel (e : Byte) (s : State) : Result := .next (((s.setSp (s.cpu.sp + sext16 e)).setFlags (spFlags s.cpu.sp e)).cost 4)

end Sys2Proof.Machine
end

