-- ==== Sys2Proof/Machine/Alu8.lean ====
section
/-! DEFINITION. The meanings of the 8-bit arithmetic and logic (42_alu8.md R175 to R192).
Each starts after the bytes of its instruction have been fetched (00_scope.md R14) and records its cost in m-cycles
(70_reset_and_hazards.md R620). -/

namespace Sys2Proof.Machine

/-- An accumulator operation with the second operand `v`, at the cost `n` (R175 to R183). -/
def accOp (op : AluOp) (v : Byte) (n : Nat) (s : State) : Result :=
  .next ((s.setAccFlags (aluOut op s.cpu.a v s.cpu.cf)).cost n)

/-- A register and the flags take a result (R184, R186). -/
def regResult (r : Reg8) (o : AluOut) (s : State) : Result :=
  .next ((s.setCpu ((s.cpu.setReg r o.value).setFlags o.flags)).cost 1)

/-- The memory byte at `HL` and the flags take a result (R185, R187): the flags come from the value read. -/
def memResult (o : AluOut) (s : State) : Result := .next (((s.write8 s.cpu.hl o.value).setFlags o.flags).cost 3)

/-- `INC r` (R184). -/
def incReg (r : Reg8) (s : State) : Result := regResult r (incOut (s.cpu.reg r) s.cpu.flags) s

/-- `INC (HL)` (R185). -/
def incMem (s : State) : Result := memResult (incOut (s.read8 s.cpu.hl) s.cpu.flags) s

/-- `DEC r` (R186). -/
def decReg (r : Reg8) (s : State) : Result := regResult r (decOut (s.cpu.reg r) s.cpu.flags) s

/-- `DEC (HL)` (R187). -/
def decMem (s : State) : Result := memResult (decOut (s.read8 s.cpu.hl) s.cpu.flags) s

/-- `INC B` (R184). -/
def execIncB (s : State) : Result := incReg .b s

/-- `DEC B` (R186). -/
def execDecB (s : State) : Result := decReg .b s

/-- `INC C` (R184). -/
def execIncC (s : State) : Result := incReg .c s

/-- `DEC C` (R186). -/
def execDecC (s : State) : Result := decReg .c s

/-- `INC D` (R184). -/
def execIncD (s : State) : Result := incReg .d s

/-- `DEC D` (R186). -/
def execDecD (s : State) : Result := decReg .d s

/-- `INC E` (R184). -/
def execIncE (s : State) : Result := incReg .e s

/-- `DEC E` (R186). -/
def execDecE (s : State) : Result := decReg .e s

/-- `INC H` (R184). -/
def execIncH (s : State) : Result := incReg .h s

/-- `DEC H` (R186). -/
def execDecH (s : State) : Result := decReg .h s

/-- `DAA` (R188). -/
def execDaa (s : State) : Result := .next ((s.setAccFlags (daaOut s.cpu.a s.cpu.flags)).cost 1)

/-- `INC L` (R184). -/
def execIncL (s : State) : Result := incReg .l s

/-- `DEC L` (R186). -/
def execDecL (s : State) : Result := decReg .l s

/-- `CPL` (R189). -/
def execCpl (s : State) : Result := .next ((s.setAccFlags (cplOut s.cpu.a s.cpu.flags)).cost 1)

/-- `INC (HL)` (R185). -/
def execIncMemHL (s : State) : Result := incMem s

/-- `DEC (HL)` (R187). -/
def execDecMemHL (s : State) : Result := decMem s

/-- `SCF` (R190). -/
def execScf (s : State) : Result := .next ((s.setFlags (scfFlags s.cpu.flags)).cost 1)

/-- `INC A` (R184). -/
def execIncA (s : State) : Result := incReg .a s

/-- `DEC A` (R186). -/
def execDecA (s : State) : Result := decReg .a s

/-- `CCF` (R191). -/
def execCcf (s : State) : Result := .next ((s.setFlags (ccfFlags s.cpu.flags)).cost 1)

/-- `ADD A,B` (R176). -/
def execAddAB (s : State) : Result := accOp .add (s.cpu.reg .b) 1 s

/-- `ADD A,C` (R176). -/
def execAddAC (s : State) : Result := accOp .add (s.cpu.reg .c) 1 s

/-- `ADD A,D` (R176). -/
def execAddAD (s : State) : Result := accOp .add (s.cpu.reg .d) 1 s

/-- `ADD A,E` (R176). -/
def execAddAE (s : State) : Result := accOp .add (s.cpu.reg .e) 1 s

/-- `ADD A,H` (R176). -/
def execAddAH (s : State) : Result := accOp .add (s.cpu.reg .h) 1 s

/-- `ADD A,L` (R176). -/
def execAddAL (s : State) : Result := accOp .add (s.cpu.reg .l) 1 s

/-- `ADD A,(HL)` (R176). -/
def execAddAMemHL (s : State) : Result := accOp .add (s.read8 s.cpu.hl) 2 s

/-- `ADD A,A` (R176). -/
def execAddAA (s : State) : Result := accOp .add (s.cpu.reg .a) 1 s

/-- `ADC A,B` (R177). -/
def execAdcAB (s : State) : Result := accOp .adc (s.cpu.reg .b) 1 s

/-- `ADC A,C` (R177). -/
def execAdcAC (s : State) : Result := accOp .adc (s.cpu.reg .c) 1 s

/-- `ADC A,D` (R177). -/
def execAdcAD (s : State) : Result := accOp .adc (s.cpu.reg .d) 1 s

/-- `ADC A,E` (R177). -/
def execAdcAE (s : State) : Result := accOp .adc (s.cpu.reg .e) 1 s

/-- `ADC A,H` (R177). -/
def execAdcAH (s : State) : Result := accOp .adc (s.cpu.reg .h) 1 s

/-- `ADC A,L` (R177). -/
def execAdcAL (s : State) : Result := accOp .adc (s.cpu.reg .l) 1 s

/-- `ADC A,(HL)` (R177). -/
def execAdcAMemHL (s : State) : Result := accOp .adc (s.read8 s.cpu.hl) 2 s

/-- `ADC A,A` (R177). -/
def execAdcAA (s : State) : Result := accOp .adc (s.cpu.reg .a) 1 s

/-- `SUB B` (R178). -/
def execSubB (s : State) : Result := accOp .sub (s.cpu.reg .b) 1 s

/-- `SUB C` (R178). -/
def execSubC (s : State) : Result := accOp .sub (s.cpu.reg .c) 1 s

/-- `SUB D` (R178). -/
def execSubD (s : State) : Result := accOp .sub (s.cpu.reg .d) 1 s

/-- `SUB E` (R178). -/
def execSubE (s : State) : Result := accOp .sub (s.cpu.reg .e) 1 s

/-- `SUB H` (R178). -/
def execSubH (s : State) : Result := accOp .sub (s.cpu.reg .h) 1 s

/-- `SUB L` (R178). -/
def execSubL (s : State) : Result := accOp .sub (s.cpu.reg .l) 1 s

/-- `SUB (HL)` (R178). -/
def execSubMemHL (s : State) : Result := accOp .sub (s.read8 s.cpu.hl) 2 s

/-- `SUB A` (R178). -/
def execSubA (s : State) : Result := accOp .sub (s.cpu.reg .a) 1 s

/-- `SBC A,B` (R179). -/
def execSbcAB (s : State) : Result := accOp .sbc (s.cpu.reg .b) 1 s

/-- `SBC A,C` (R179). -/
def execSbcAC (s : State) : Result := accOp .sbc (s.cpu.reg .c) 1 s

/-- `SBC A,D` (R179). -/
def execSbcAD (s : State) : Result := accOp .sbc (s.cpu.reg .d) 1 s

/-- `SBC A,E` (R179). -/
def execSbcAE (s : State) : Result := accOp .sbc (s.cpu.reg .e) 1 s

/-- `SBC A,H` (R179). -/
def execSbcAH (s : State) : Result := accOp .sbc (s.cpu.reg .h) 1 s

/-- `SBC A,L` (R179). -/
def execSbcAL (s : State) : Result := accOp .sbc (s.cpu.reg .l) 1 s

/-- `SBC A,(HL)` (R179). -/
def execSbcAMemHL (s : State) : Result := accOp .sbc (s.read8 s.cpu.hl) 2 s

/-- `SBC A,A` (R179). -/
def execSbcAA (s : State) : Result := accOp .sbc (s.cpu.reg .a) 1 s

/-- `AND B` (R180). -/
def execAndB (s : State) : Result := accOp .and (s.cpu.reg .b) 1 s

/-- `AND C` (R180). -/
def execAndC (s : State) : Result := accOp .and (s.cpu.reg .c) 1 s

/-- `AND D` (R180). -/
def execAndD (s : State) : Result := accOp .and (s.cpu.reg .d) 1 s

/-- `AND E` (R180). -/
def execAndE (s : State) : Result := accOp .and (s.cpu.reg .e) 1 s

/-- `AND H` (R180). -/
def execAndH (s : State) : Result := accOp .and (s.cpu.reg .h) 1 s

/-- `AND L` (R180). -/
def execAndL (s : State) : Result := accOp .and (s.cpu.reg .l) 1 s

/-- `AND (HL)` (R180). -/
def execAndMemHL (s : State) : Result := accOp .and (s.read8 s.cpu.hl) 2 s

/-- `AND A` (R180). -/
def execAndA (s : State) : Result := accOp .and (s.cpu.reg .a) 1 s

/-- `XOR B` (R181). -/
def execXorB (s : State) : Result := accOp .xor (s.cpu.reg .b) 1 s

/-- `XOR C` (R181). -/
def execXorC (s : State) : Result := accOp .xor (s.cpu.reg .c) 1 s

/-- `XOR D` (R181). -/
def execXorD (s : State) : Result := accOp .xor (s.cpu.reg .d) 1 s

/-- `XOR E` (R181). -/
def execXorE (s : State) : Result := accOp .xor (s.cpu.reg .e) 1 s

/-- `XOR H` (R181). -/
def execXorH (s : State) : Result := accOp .xor (s.cpu.reg .h) 1 s

/-- `XOR L` (R181). -/
def execXorL (s : State) : Result := accOp .xor (s.cpu.reg .l) 1 s

/-- `XOR (HL)` (R181). -/
def execXorMemHL (s : State) : Result := accOp .xor (s.read8 s.cpu.hl) 2 s

/-- `XOR A` (R181). -/
def execXorA (s : State) : Result := accOp .xor (s.cpu.reg .a) 1 s

/-- `OR B` (R182). -/
def execOrB (s : State) : Result := accOp .or (s.cpu.reg .b) 1 s

/-- `OR C` (R182). -/
def execOrC (s : State) : Result := accOp .or (s.cpu.reg .c) 1 s

/-- `OR D` (R182). -/
def execOrD (s : State) : Result := accOp .or (s.cpu.reg .d) 1 s

/-- `OR E` (R182). -/
def execOrE (s : State) : Result := accOp .or (s.cpu.reg .e) 1 s

/-- `OR H` (R182). -/
def execOrH (s : State) : Result := accOp .or (s.cpu.reg .h) 1 s

/-- `OR L` (R182). -/
def execOrL (s : State) : Result := accOp .or (s.cpu.reg .l) 1 s

/-- `OR (HL)` (R182). -/
def execOrMemHL (s : State) : Result := accOp .or (s.read8 s.cpu.hl) 2 s

/-- `OR A` (R182). -/
def execOrA (s : State) : Result := accOp .or (s.cpu.reg .a) 1 s

/-- `CP B` (R183). -/
def execCpB (s : State) : Result := accOp .cp (s.cpu.reg .b) 1 s

/-- `CP C` (R183). -/
def execCpC (s : State) : Result := accOp .cp (s.cpu.reg .c) 1 s

/-- `CP D` (R183). -/
def execCpD (s : State) : Result := accOp .cp (s.cpu.reg .d) 1 s

/-- `CP E` (R183). -/
def execCpE (s : State) : Result := accOp .cp (s.cpu.reg .e) 1 s

/-- `CP H` (R183). -/
def execCpH (s : State) : Result := accOp .cp (s.cpu.reg .h) 1 s

/-- `CP L` (R183). -/
def execCpL (s : State) : Result := accOp .cp (s.cpu.reg .l) 1 s

/-- `CP (HL)` (R183). -/
def execCpMemHL (s : State) : Result := accOp .cp (s.read8 s.cpu.hl) 2 s

/-- `CP A` (R183). -/
def execCpA (s : State) : Result := accOp .cp (s.cpu.reg .a) 1 s

/-- `ADD A,n` (R176). -/
def execAddAImm8 (n : Byte) (s : State) : Result := accOp .add n 2 s

/-- `ADC A,n` (R177). -/
def execAdcAImm8 (n : Byte) (s : State) : Result := accOp .adc n 2 s

/-- `SUB n` (R178). -/
def execSubImm8 (n : Byte) (s : State) : Result := accOp .sub n 2 s

/-- `SBC A,n` (R179). -/
def execSbcAImm8 (n : Byte) (s : State) : Result := accOp .sbc n 2 s

/-- `AND n` (R180). -/
def execAndImm8 (n : Byte) (s : State) : Result := accOp .and n 2 s

/-- `XOR n` (R181). -/
def execXorImm8 (n : Byte) (s : State) : Result := accOp .xor n 2 s

/-- `OR n` (R182). -/
def execOrImm8 (n : Byte) (s : State) : Result := accOp .or n 2 s

/-- `CP n` (R183). -/
def execCpImm8 (n : Byte) (s : State) : Result := accOp .cp n 2 s

end Sys2Proof.Machine
end

