-- ==== Sys2Proof/Machine/Rotate.lean ====
section
/-! DEFINITION. The meanings of the rotates and shifts (44_rotate_shift_bit.md R220 to R232).
Each starts after the bytes of its instruction have been fetched (00_scope.md R14) and records its cost in m-cycles
(70_reset_and_hazards.md R620). -/

namespace Sys2Proof.Machine

/-- The cost of a `CB` instruction that writes its operand back (R220). -/
def cbCost (o : Opd8) : Nat :=
  match o with
  | .reg _ => 2
  | .memHL => 4

/-- A rotate of the accumulator (R221 to R224). -/
def rotAcc (op : RotOp) (s : State) : Result := .next ((s.setAccFlags (rotAccOut op s.cpu.a s.cpu.cf)).cost 1)

/-- A rotate or shift of the `CB` group (R225 to R232). -/
def rotOpd (op : RotOp) (o : Opd8) (s : State) : Result :=
  let r := rotOut op (s.readOpd o) s.cpu.cf
  .next (((s.writeOpd o r.value).setFlags r.flags).cost (cbCost o))

/-- `RLCA` (R221). -/
def execRlca (s : State) : Result := rotAcc .rlc s

/-- `RRCA` (R222). -/
def execRrca (s : State) : Result := rotAcc .rrc s

/-- `RLA` (R223). -/
def execRla (s : State) : Result := rotAcc .rl s

/-- `RRA` (R224). -/
def execRra (s : State) : Result := rotAcc .rr s

/-- `RLC B` (R225). -/
def execRlcB (s : State) : Result := rotOpd .rlc (.reg .b) s

/-- `RLC C` (R225). -/
def execRlcC (s : State) : Result := rotOpd .rlc (.reg .c) s

/-- `RLC D` (R225). -/
def execRlcD (s : State) : Result := rotOpd .rlc (.reg .d) s

/-- `RLC E` (R225). -/
def execRlcE (s : State) : Result := rotOpd .rlc (.reg .e) s

/-- `RLC H` (R225). -/
def execRlcH (s : State) : Result := rotOpd .rlc (.reg .h) s

/-- `RLC L` (R225). -/
def execRlcL (s : State) : Result := rotOpd .rlc (.reg .l) s

/-- `RLC (HL)` (R225). -/
def execRlcMemHL (s : State) : Result := rotOpd .rlc .memHL s

/-- `RLC A` (R225). -/
def execRlcA (s : State) : Result := rotOpd .rlc (.reg .a) s

/-- `RRC B` (R226). -/
def execRrcB (s : State) : Result := rotOpd .rrc (.reg .b) s

/-- `RRC C` (R226). -/
def execRrcC (s : State) : Result := rotOpd .rrc (.reg .c) s

/-- `RRC D` (R226). -/
def execRrcD (s : State) : Result := rotOpd .rrc (.reg .d) s

/-- `RRC E` (R226). -/
def execRrcE (s : State) : Result := rotOpd .rrc (.reg .e) s

/-- `RRC H` (R226). -/
def execRrcH (s : State) : Result := rotOpd .rrc (.reg .h) s

/-- `RRC L` (R226). -/
def execRrcL (s : State) : Result := rotOpd .rrc (.reg .l) s

/-- `RRC (HL)` (R226). -/
def execRrcMemHL (s : State) : Result := rotOpd .rrc .memHL s

/-- `RRC A` (R226). -/
def execRrcA (s : State) : Result := rotOpd .rrc (.reg .a) s

/-- `RL B` (R227). -/
def execRlB (s : State) : Result := rotOpd .rl (.reg .b) s

/-- `RL C` (R227). -/
def execRlC (s : State) : Result := rotOpd .rl (.reg .c) s

/-- `RL D` (R227). -/
def execRlD (s : State) : Result := rotOpd .rl (.reg .d) s

/-- `RL E` (R227). -/
def execRlE (s : State) : Result := rotOpd .rl (.reg .e) s

/-- `RL H` (R227). -/
def execRlH (s : State) : Result := rotOpd .rl (.reg .h) s

/-- `RL L` (R227). -/
def execRlL (s : State) : Result := rotOpd .rl (.reg .l) s

/-- `RL (HL)` (R227). -/
def execRlMemHL (s : State) : Result := rotOpd .rl .memHL s

/-- `RL A` (R227). -/
def execRlA (s : State) : Result := rotOpd .rl (.reg .a) s

/-- `RR B` (R228). -/
def execRrB (s : State) : Result := rotOpd .rr (.reg .b) s

/-- `RR C` (R228). -/
def execRrC (s : State) : Result := rotOpd .rr (.reg .c) s

/-- `RR D` (R228). -/
def execRrD (s : State) : Result := rotOpd .rr (.reg .d) s

/-- `RR E` (R228). -/
def execRrE (s : State) : Result := rotOpd .rr (.reg .e) s

/-- `RR H` (R228). -/
def execRrH (s : State) : Result := rotOpd .rr (.reg .h) s

/-- `RR L` (R228). -/
def execRrL (s : State) : Result := rotOpd .rr (.reg .l) s

/-- `RR (HL)` (R228). -/
def execRrMemHL (s : State) : Result := rotOpd .rr .memHL s

/-- `RR A` (R228). -/
def execRrA (s : State) : Result := rotOpd .rr (.reg .a) s

/-- `SLA B` (R229). -/
def execSlaB (s : State) : Result := rotOpd .sla (.reg .b) s

/-- `SLA C` (R229). -/
def execSlaC (s : State) : Result := rotOpd .sla (.reg .c) s

/-- `SLA D` (R229). -/
def execSlaD (s : State) : Result := rotOpd .sla (.reg .d) s

/-- `SLA E` (R229). -/
def execSlaE (s : State) : Result := rotOpd .sla (.reg .e) s

/-- `SLA H` (R229). -/
def execSlaH (s : State) : Result := rotOpd .sla (.reg .h) s

/-- `SLA L` (R229). -/
def execSlaL (s : State) : Result := rotOpd .sla (.reg .l) s

/-- `SLA (HL)` (R229). -/
def execSlaMemHL (s : State) : Result := rotOpd .sla .memHL s

/-- `SLA A` (R229). -/
def execSlaA (s : State) : Result := rotOpd .sla (.reg .a) s

/-- `SRA B` (R230). -/
def execSraB (s : State) : Result := rotOpd .sra (.reg .b) s

/-- `SRA C` (R230). -/
def execSraC (s : State) : Result := rotOpd .sra (.reg .c) s

/-- `SRA D` (R230). -/
def execSraD (s : State) : Result := rotOpd .sra (.reg .d) s

/-- `SRA E` (R230). -/
def execSraE (s : State) : Result := rotOpd .sra (.reg .e) s

/-- `SRA H` (R230). -/
def execSraH (s : State) : Result := rotOpd .sra (.reg .h) s

/-- `SRA L` (R230). -/
def execSraL (s : State) : Result := rotOpd .sra (.reg .l) s

/-- `SRA (HL)` (R230). -/
def execSraMemHL (s : State) : Result := rotOpd .sra .memHL s

/-- `SRA A` (R230). -/
def execSraA (s : State) : Result := rotOpd .sra (.reg .a) s

/-- `SWAP B` (R231). -/
def execSwapB (s : State) : Result := rotOpd .swap (.reg .b) s

/-- `SWAP C` (R231). -/
def execSwapC (s : State) : Result := rotOpd .swap (.reg .c) s

/-- `SWAP D` (R231). -/
def execSwapD (s : State) : Result := rotOpd .swap (.reg .d) s

/-- `SWAP E` (R231). -/
def execSwapE (s : State) : Result := rotOpd .swap (.reg .e) s

/-- `SWAP H` (R231). -/
def execSwapH (s : State) : Result := rotOpd .swap (.reg .h) s

/-- `SWAP L` (R231). -/
def execSwapL (s : State) : Result := rotOpd .swap (.reg .l) s

/-- `SWAP (HL)` (R231). -/
def execSwapMemHL (s : State) : Result := rotOpd .swap .memHL s

/-- `SWAP A` (R231). -/
def execSwapA (s : State) : Result := rotOpd .swap (.reg .a) s

/-- `SRL B` (R232). -/
def execSrlB (s : State) : Result := rotOpd .srl (.reg .b) s

/-- `SRL C` (R232). -/
def execSrlC (s : State) : Result := rotOpd .srl (.reg .c) s

/-- `SRL D` (R232). -/
def execSrlD (s : State) : Result := rotOpd .srl (.reg .d) s

/-- `SRL E` (R232). -/
def execSrlE (s : State) : Result := rotOpd .srl (.reg .e) s

/-- `SRL H` (R232). -/
def execSrlH (s : State) : Result := rotOpd .srl (.reg .h) s

/-- `SRL L` (R232). -/
def execSrlL (s : State) : Result := rotOpd .srl (.reg .l) s

/-- `SRL (HL)` (R232). -/
def execSrlMemHL (s : State) : Result := rotOpd .srl .memHL s

/-- `SRL A` (R232). -/
def execSrlA (s : State) : Result := rotOpd .srl (.reg .a) s

end Sys2Proof.Machine
end

