-- ==== Sys2Proof/Machine/Bit.lean ====
section
/-! DEFINITION. The meanings of the bit instructions (44_rotate_shift_bit.md R233 to R235).
Each starts after the bytes of its instruction have been fetched (00_scope.md R14) and records its cost in m-cycles
(70_reset_and_hazards.md R620). -/

namespace Sys2Proof.Machine

/-- The cost of `BIT` (R220). -/
def bitCost (o : Opd8) : Nat :=
  match o with
  | .reg _ => 2
  | .memHL => 3

/-- `BIT y,x` (R233): nothing is written back. -/
def bitOpd (y : Fin 8) (o : Opd8) (s : State) : Result :=
  .next ((s.setFlags (bitFlags y (s.readOpd o) s.cpu.flags)).cost (bitCost o))

/-- `RES y,x` (R234): no flag is written. -/
def resOpd (y : Fin 8) (o : Opd8) (s : State) : Result :=
  .next ((s.writeOpd o (resValue y (s.readOpd o))).cost (cbCost o))

/-- `SET y,x` (R235): no flag is written. -/
def setOpd (y : Fin 8) (o : Opd8) (s : State) : Result :=
  .next ((s.writeOpd o (setValue y (s.readOpd o))).cost (cbCost o))

/-- `BIT 0,B` (R233). -/
def execBit0B (s : State) : Result := bitOpd 0 (.reg .b) s

/-- `BIT 0,C` (R233). -/
def execBit0C (s : State) : Result := bitOpd 0 (.reg .c) s

/-- `BIT 0,D` (R233). -/
def execBit0D (s : State) : Result := bitOpd 0 (.reg .d) s

/-- `BIT 0,E` (R233). -/
def execBit0E (s : State) : Result := bitOpd 0 (.reg .e) s

/-- `BIT 0,H` (R233). -/
def execBit0H (s : State) : Result := bitOpd 0 (.reg .h) s

/-- `BIT 0,L` (R233). -/
def execBit0L (s : State) : Result := bitOpd 0 (.reg .l) s

/-- `BIT 0,(HL)` (R233). -/
def execBit0MemHL (s : State) : Result := bitOpd 0 .memHL s

/-- `BIT 0,A` (R233). -/
def execBit0A (s : State) : Result := bitOpd 0 (.reg .a) s

/-- `BIT 1,B` (R233). -/
def execBit1B (s : State) : Result := bitOpd 1 (.reg .b) s

/-- `BIT 1,C` (R233). -/
def execBit1C (s : State) : Result := bitOpd 1 (.reg .c) s

/-- `BIT 1,D` (R233). -/
def execBit1D (s : State) : Result := bitOpd 1 (.reg .d) s

/-- `BIT 1,E` (R233). -/
def execBit1E (s : State) : Result := bitOpd 1 (.reg .e) s

/-- `BIT 1,H` (R233). -/
def execBit1H (s : State) : Result := bitOpd 1 (.reg .h) s

/-- `BIT 1,L` (R233). -/
def execBit1L (s : State) : Result := bitOpd 1 (.reg .l) s

/-- `BIT 1,(HL)` (R233). -/
def execBit1MemHL (s : State) : Result := bitOpd 1 .memHL s

/-- `BIT 1,A` (R233). -/
def execBit1A (s : State) : Result := bitOpd 1 (.reg .a) s

/-- `BIT 2,B` (R233). -/
def execBit2B (s : State) : Result := bitOpd 2 (.reg .b) s

/-- `BIT 2,C` (R233). -/
def execBit2C (s : State) : Result := bitOpd 2 (.reg .c) s

/-- `BIT 2,D` (R233). -/
def execBit2D (s : State) : Result := bitOpd 2 (.reg .d) s

/-- `BIT 2,E` (R233). -/
def execBit2E (s : State) : Result := bitOpd 2 (.reg .e) s

/-- `BIT 2,H` (R233). -/
def execBit2H (s : State) : Result := bitOpd 2 (.reg .h) s

/-- `BIT 2,L` (R233). -/
def execBit2L (s : State) : Result := bitOpd 2 (.reg .l) s

/-- `BIT 2,(HL)` (R233). -/
def execBit2MemHL (s : State) : Result := bitOpd 2 .memHL s

/-- `BIT 2,A` (R233). -/
def execBit2A (s : State) : Result := bitOpd 2 (.reg .a) s

/-- `BIT 3,B` (R233). -/
def execBit3B (s : State) : Result := bitOpd 3 (.reg .b) s

/-- `BIT 3,C` (R233). -/
def execBit3C (s : State) : Result := bitOpd 3 (.reg .c) s

/-- `BIT 3,D` (R233). -/
def execBit3D (s : State) : Result := bitOpd 3 (.reg .d) s

/-- `BIT 3,E` (R233). -/
def execBit3E (s : State) : Result := bitOpd 3 (.reg .e) s

/-- `BIT 3,H` (R233). -/
def execBit3H (s : State) : Result := bitOpd 3 (.reg .h) s

/-- `BIT 3,L` (R233). -/
def execBit3L (s : State) : Result := bitOpd 3 (.reg .l) s

/-- `BIT 3,(HL)` (R233). -/
def execBit3MemHL (s : State) : Result := bitOpd 3 .memHL s

/-- `BIT 3,A` (R233). -/
def execBit3A (s : State) : Result := bitOpd 3 (.reg .a) s

/-- `BIT 4,B` (R233). -/
def execBit4B (s : State) : Result := bitOpd 4 (.reg .b) s

/-- `BIT 4,C` (R233). -/
def execBit4C (s : State) : Result := bitOpd 4 (.reg .c) s

/-- `BIT 4,D` (R233). -/
def execBit4D (s : State) : Result := bitOpd 4 (.reg .d) s

/-- `BIT 4,E` (R233). -/
def execBit4E (s : State) : Result := bitOpd 4 (.reg .e) s

/-- `BIT 4,H` (R233). -/
def execBit4H (s : State) : Result := bitOpd 4 (.reg .h) s

/-- `BIT 4,L` (R233). -/
def execBit4L (s : State) : Result := bitOpd 4 (.reg .l) s

/-- `BIT 4,(HL)` (R233). -/
def execBit4MemHL (s : State) : Result := bitOpd 4 .memHL s

/-- `BIT 4,A` (R233). -/
def execBit4A (s : State) : Result := bitOpd 4 (.reg .a) s

/-- `BIT 5,B` (R233). -/
def execBit5B (s : State) : Result := bitOpd 5 (.reg .b) s

/-- `BIT 5,C` (R233). -/
def execBit5C (s : State) : Result := bitOpd 5 (.reg .c) s

/-- `BIT 5,D` (R233). -/
def execBit5D (s : State) : Result := bitOpd 5 (.reg .d) s

/-- `BIT 5,E` (R233). -/
def execBit5E (s : State) : Result := bitOpd 5 (.reg .e) s

/-- `BIT 5,H` (R233). -/
def execBit5H (s : State) : Result := bitOpd 5 (.reg .h) s

/-- `BIT 5,L` (R233). -/
def execBit5L (s : State) : Result := bitOpd 5 (.reg .l) s

/-- `BIT 5,(HL)` (R233). -/
def execBit5MemHL (s : State) : Result := bitOpd 5 .memHL s

/-- `BIT 5,A` (R233). -/
def execBit5A (s : State) : Result := bitOpd 5 (.reg .a) s

/-- `BIT 6,B` (R233). -/
def execBit6B (s : State) : Result := bitOpd 6 (.reg .b) s

/-- `BIT 6,C` (R233). -/
def execBit6C (s : State) : Result := bitOpd 6 (.reg .c) s

/-- `BIT 6,D` (R233). -/
def execBit6D (s : State) : Result := bitOpd 6 (.reg .d) s

/-- `BIT 6,E` (R233). -/
def execBit6E (s : State) : Result := bitOpd 6 (.reg .e) s

/-- `BIT 6,H` (R233). -/
def execBit6H (s : State) : Result := bitOpd 6 (.reg .h) s

/-- `BIT 6,L` (R233). -/
def execBit6L (s : State) : Result := bitOpd 6 (.reg .l) s

/-- `BIT 6,(HL)` (R233). -/
def execBit6MemHL (s : State) : Result := bitOpd 6 .memHL s

/-- `BIT 6,A` (R233). -/
def execBit6A (s : State) : Result := bitOpd 6 (.reg .a) s

/-- `BIT 7,B` (R233). -/
def execBit7B (s : State) : Result := bitOpd 7 (.reg .b) s

/-- `BIT 7,C` (R233). -/
def execBit7C (s : State) : Result := bitOpd 7 (.reg .c) s

/-- `BIT 7,D` (R233). -/
def execBit7D (s : State) : Result := bitOpd 7 (.reg .d) s

/-- `BIT 7,E` (R233). -/
def execBit7E (s : State) : Result := bitOpd 7 (.reg .e) s

/-- `BIT 7,H` (R233). -/
def execBit7H (s : State) : Result := bitOpd 7 (.reg .h) s

/-- `BIT 7,L` (R233). -/
def execBit7L (s : State) : Result := bitOpd 7 (.reg .l) s

/-- `BIT 7,(HL)` (R233). -/
def execBit7MemHL (s : State) : Result := bitOpd 7 .memHL s

/-- `BIT 7,A` (R233). -/
def execBit7A (s : State) : Result := bitOpd 7 (.reg .a) s

/-- `RES 0,B` (R234). -/
def execRes0B (s : State) : Result := resOpd 0 (.reg .b) s

/-- `RES 0,C` (R234). -/
def execRes0C (s : State) : Result := resOpd 0 (.reg .c) s

/-- `RES 0,D` (R234). -/
def execRes0D (s : State) : Result := resOpd 0 (.reg .d) s

/-- `RES 0,E` (R234). -/
def execRes0E (s : State) : Result := resOpd 0 (.reg .e) s

/-- `RES 0,H` (R234). -/
def execRes0H (s : State) : Result := resOpd 0 (.reg .h) s

/-- `RES 0,L` (R234). -/
def execRes0L (s : State) : Result := resOpd 0 (.reg .l) s

/-- `RES 0,(HL)` (R234). -/
def execRes0MemHL (s : State) : Result := resOpd 0 .memHL s

/-- `RES 0,A` (R234). -/
def execRes0A (s : State) : Result := resOpd 0 (.reg .a) s

/-- `RES 1,B` (R234). -/
def execRes1B (s : State) : Result := resOpd 1 (.reg .b) s

/-- `RES 1,C` (R234). -/
def execRes1C (s : State) : Result := resOpd 1 (.reg .c) s

/-- `RES 1,D` (R234). -/
def execRes1D (s : State) : Result := resOpd 1 (.reg .d) s

/-- `RES 1,E` (R234). -/
def execRes1E (s : State) : Result := resOpd 1 (.reg .e) s

/-- `RES 1,H` (R234). -/
def execRes1H (s : State) : Result := resOpd 1 (.reg .h) s

/-- `RES 1,L` (R234). -/
def execRes1L (s : State) : Result := resOpd 1 (.reg .l) s

/-- `RES 1,(HL)` (R234). -/
def execRes1MemHL (s : State) : Result := resOpd 1 .memHL s

/-- `RES 1,A` (R234). -/
def execRes1A (s : State) : Result := resOpd 1 (.reg .a) s

/-- `RES 2,B` (R234). -/
def execRes2B (s : State) : Result := resOpd 2 (.reg .b) s

/-- `RES 2,C` (R234). -/
def execRes2C (s : State) : Result := resOpd 2 (.reg .c) s

/-- `RES 2,D` (R234). -/
def execRes2D (s : State) : Result := resOpd 2 (.reg .d) s

/-- `RES 2,E` (R234). -/
def execRes2E (s : State) : Result := resOpd 2 (.reg .e) s

/-- `RES 2,H` (R234). -/
def execRes2H (s : State) : Result := resOpd 2 (.reg .h) s

/-- `RES 2,L` (R234). -/
def execRes2L (s : State) : Result := resOpd 2 (.reg .l) s

/-- `RES 2,(HL)` (R234). -/
def execRes2MemHL (s : State) : Result := resOpd 2 .memHL s

/-- `RES 2,A` (R234). -/
def execRes2A (s : State) : Result := resOpd 2 (.reg .a) s

/-- `RES 3,B` (R234). -/
def execRes3B (s : State) : Result := resOpd 3 (.reg .b) s

/-- `RES 3,C` (R234). -/
def execRes3C (s : State) : Result := resOpd 3 (.reg .c) s

/-- `RES 3,D` (R234). -/
def execRes3D (s : State) : Result := resOpd 3 (.reg .d) s

/-- `RES 3,E` (R234). -/
def execRes3E (s : State) : Result := resOpd 3 (.reg .e) s

/-- `RES 3,H` (R234). -/
def execRes3H (s : State) : Result := resOpd 3 (.reg .h) s

/-- `RES 3,L` (R234). -/
def execRes3L (s : State) : Result := resOpd 3 (.reg .l) s

/-- `RES 3,(HL)` (R234). -/
def execRes3MemHL (s : State) : Result := resOpd 3 .memHL s

/-- `RES 3,A` (R234). -/
def execRes3A (s : State) : Result := resOpd 3 (.reg .a) s

/-- `RES 4,B` (R234). -/
def execRes4B (s : State) : Result := resOpd 4 (.reg .b) s

/-- `RES 4,C` (R234). -/
def execRes4C (s : State) : Result := resOpd 4 (.reg .c) s

/-- `RES 4,D` (R234). -/
def execRes4D (s : State) : Result := resOpd 4 (.reg .d) s

/-- `RES 4,E` (R234). -/
def execRes4E (s : State) : Result := resOpd 4 (.reg .e) s

/-- `RES 4,H` (R234). -/
def execRes4H (s : State) : Result := resOpd 4 (.reg .h) s

/-- `RES 4,L` (R234). -/
def execRes4L (s : State) : Result := resOpd 4 (.reg .l) s

/-- `RES 4,(HL)` (R234). -/
def execRes4MemHL (s : State) : Result := resOpd 4 .memHL s

/-- `RES 4,A` (R234). -/
def execRes4A (s : State) : Result := resOpd 4 (.reg .a) s

/-- `RES 5,B` (R234). -/
def execRes5B (s : State) : Result := resOpd 5 (.reg .b) s

/-- `RES 5,C` (R234). -/
def execRes5C (s : State) : Result := resOpd 5 (.reg .c) s

/-- `RES 5,D` (R234). -/
def execRes5D (s : State) : Result := resOpd 5 (.reg .d) s

/-- `RES 5,E` (R234). -/
def execRes5E (s : State) : Result := resOpd 5 (.reg .e) s

/-- `RES 5,H` (R234). -/
def execRes5H (s : State) : Result := resOpd 5 (.reg .h) s

/-- `RES 5,L` (R234). -/
def execRes5L (s : State) : Result := resOpd 5 (.reg .l) s

/-- `RES 5,(HL)` (R234). -/
def execRes5MemHL (s : State) : Result := resOpd 5 .memHL s

/-- `RES 5,A` (R234). -/
def execRes5A (s : State) : Result := resOpd 5 (.reg .a) s

/-- `RES 6,B` (R234). -/
def execRes6B (s : State) : Result := resOpd 6 (.reg .b) s

/-- `RES 6,C` (R234). -/
def execRes6C (s : State) : Result := resOpd 6 (.reg .c) s

/-- `RES 6,D` (R234). -/
def execRes6D (s : State) : Result := resOpd 6 (.reg .d) s

/-- `RES 6,E` (R234). -/
def execRes6E (s : State) : Result := resOpd 6 (.reg .e) s

/-- `RES 6,H` (R234). -/
def execRes6H (s : State) : Result := resOpd 6 (.reg .h) s

/-- `RES 6,L` (R234). -/
def execRes6L (s : State) : Result := resOpd 6 (.reg .l) s

/-- `RES 6,(HL)` (R234). -/
def execRes6MemHL (s : State) : Result := resOpd 6 .memHL s

/-- `RES 6,A` (R234). -/
def execRes6A (s : State) : Result := resOpd 6 (.reg .a) s

/-- `RES 7,B` (R234). -/
def execRes7B (s : State) : Result := resOpd 7 (.reg .b) s

/-- `RES 7,C` (R234). -/
def execRes7C (s : State) : Result := resOpd 7 (.reg .c) s

/-- `RES 7,D` (R234). -/
def execRes7D (s : State) : Result := resOpd 7 (.reg .d) s

/-- `RES 7,E` (R234). -/
def execRes7E (s : State) : Result := resOpd 7 (.reg .e) s

/-- `RES 7,H` (R234). -/
def execRes7H (s : State) : Result := resOpd 7 (.reg .h) s

/-- `RES 7,L` (R234). -/
def execRes7L (s : State) : Result := resOpd 7 (.reg .l) s

/-- `RES 7,(HL)` (R234). -/
def execRes7MemHL (s : State) : Result := resOpd 7 .memHL s

/-- `RES 7,A` (R234). -/
def execRes7A (s : State) : Result := resOpd 7 (.reg .a) s

/-- `SET 0,B` (R235). -/
def execSet0B (s : State) : Result := setOpd 0 (.reg .b) s

/-- `SET 0,C` (R235). -/
def execSet0C (s : State) : Result := setOpd 0 (.reg .c) s

/-- `SET 0,D` (R235). -/
def execSet0D (s : State) : Result := setOpd 0 (.reg .d) s

/-- `SET 0,E` (R235). -/
def execSet0E (s : State) : Result := setOpd 0 (.reg .e) s

/-- `SET 0,H` (R235). -/
def execSet0H (s : State) : Result := setOpd 0 (.reg .h) s

/-- `SET 0,L` (R235). -/
def execSet0L (s : State) : Result := setOpd 0 (.reg .l) s

/-- `SET 0,(HL)` (R235). -/
def execSet0MemHL (s : State) : Result := setOpd 0 .memHL s

/-- `SET 0,A` (R235). -/
def execSet0A (s : State) : Result := setOpd 0 (.reg .a) s

/-- `SET 1,B` (R235). -/
def execSet1B (s : State) : Result := setOpd 1 (.reg .b) s

/-- `SET 1,C` (R235). -/
def execSet1C (s : State) : Result := setOpd 1 (.reg .c) s

/-- `SET 1,D` (R235). -/
def execSet1D (s : State) : Result := setOpd 1 (.reg .d) s

/-- `SET 1,E` (R235). -/
def execSet1E (s : State) : Result := setOpd 1 (.reg .e) s

/-- `SET 1,H` (R235). -/
def execSet1H (s : State) : Result := setOpd 1 (.reg .h) s

/-- `SET 1,L` (R235). -/
def execSet1L (s : State) : Result := setOpd 1 (.reg .l) s

/-- `SET 1,(HL)` (R235). -/
def execSet1MemHL (s : State) : Result := setOpd 1 .memHL s

/-- `SET 1,A` (R235). -/
def execSet1A (s : State) : Result := setOpd 1 (.reg .a) s

/-- `SET 2,B` (R235). -/
def execSet2B (s : State) : Result := setOpd 2 (.reg .b) s

/-- `SET 2,C` (R235). -/
def execSet2C (s : State) : Result := setOpd 2 (.reg .c) s

/-- `SET 2,D` (R235). -/
def execSet2D (s : State) : Result := setOpd 2 (.reg .d) s

/-- `SET 2,E` (R235). -/
def execSet2E (s : State) : Result := setOpd 2 (.reg .e) s

/-- `SET 2,H` (R235). -/
def execSet2H (s : State) : Result := setOpd 2 (.reg .h) s

/-- `SET 2,L` (R235). -/
def execSet2L (s : State) : Result := setOpd 2 (.reg .l) s

/-- `SET 2,(HL)` (R235). -/
def execSet2MemHL (s : State) : Result := setOpd 2 .memHL s

/-- `SET 2,A` (R235). -/
def execSet2A (s : State) : Result := setOpd 2 (.reg .a) s

/-- `SET 3,B` (R235). -/
def execSet3B (s : State) : Result := setOpd 3 (.reg .b) s

/-- `SET 3,C` (R235). -/
def execSet3C (s : State) : Result := setOpd 3 (.reg .c) s

/-- `SET 3,D` (R235). -/
def execSet3D (s : State) : Result := setOpd 3 (.reg .d) s

/-- `SET 3,E` (R235). -/
def execSet3E (s : State) : Result := setOpd 3 (.reg .e) s

/-- `SET 3,H` (R235). -/
def execSet3H (s : State) : Result := setOpd 3 (.reg .h) s

/-- `SET 3,L` (R235). -/
def execSet3L (s : State) : Result := setOpd 3 (.reg .l) s

/-- `SET 3,(HL)` (R235). -/
def execSet3MemHL (s : State) : Result := setOpd 3 .memHL s

/-- `SET 3,A` (R235). -/
def execSet3A (s : State) : Result := setOpd 3 (.reg .a) s

/-- `SET 4,B` (R235). -/
def execSet4B (s : State) : Result := setOpd 4 (.reg .b) s

/-- `SET 4,C` (R235). -/
def execSet4C (s : State) : Result := setOpd 4 (.reg .c) s

/-- `SET 4,D` (R235). -/
def execSet4D (s : State) : Result := setOpd 4 (.reg .d) s

/-- `SET 4,E` (R235). -/
def execSet4E (s : State) : Result := setOpd 4 (.reg .e) s

/-- `SET 4,H` (R235). -/
def execSet4H (s : State) : Result := setOpd 4 (.reg .h) s

/-- `SET 4,L` (R235). -/
def execSet4L (s : State) : Result := setOpd 4 (.reg .l) s

/-- `SET 4,(HL)` (R235). -/
def execSet4MemHL (s : State) : Result := setOpd 4 .memHL s

/-- `SET 4,A` (R235). -/
def execSet4A (s : State) : Result := setOpd 4 (.reg .a) s

/-- `SET 5,B` (R235). -/
def execSet5B (s : State) : Result := setOpd 5 (.reg .b) s

/-- `SET 5,C` (R235). -/
def execSet5C (s : State) : Result := setOpd 5 (.reg .c) s

/-- `SET 5,D` (R235). -/
def execSet5D (s : State) : Result := setOpd 5 (.reg .d) s

/-- `SET 5,E` (R235). -/
def execSet5E (s : State) : Result := setOpd 5 (.reg .e) s

/-- `SET 5,H` (R235). -/
def execSet5H (s : State) : Result := setOpd 5 (.reg .h) s

/-- `SET 5,L` (R235). -/
def execSet5L (s : State) : Result := setOpd 5 (.reg .l) s

/-- `SET 5,(HL)` (R235). -/
def execSet5MemHL (s : State) : Result := setOpd 5 .memHL s

/-- `SET 5,A` (R235). -/
def execSet5A (s : State) : Result := setOpd 5 (.reg .a) s

/-- `SET 6,B` (R235). -/
def execSet6B (s : State) : Result := setOpd 6 (.reg .b) s

/-- `SET 6,C` (R235). -/
def execSet6C (s : State) : Result := setOpd 6 (.reg .c) s

/-- `SET 6,D` (R235). -/
def execSet6D (s : State) : Result := setOpd 6 (.reg .d) s

/-- `SET 6,E` (R235). -/
def execSet6E (s : State) : Result := setOpd 6 (.reg .e) s

/-- `SET 6,H` (R235). -/
def execSet6H (s : State) : Result := setOpd 6 (.reg .h) s

/-- `SET 6,L` (R235). -/
def execSet6L (s : State) : Result := setOpd 6 (.reg .l) s

/-- `SET 6,(HL)` (R235). -/
def execSet6MemHL (s : State) : Result := setOpd 6 .memHL s

/-- `SET 6,A` (R235). -/
def execSet6A (s : State) : Result := setOpd 6 (.reg .a) s

/-- `SET 7,B` (R235). -/
def execSet7B (s : State) : Result := setOpd 7 (.reg .b) s

/-- `SET 7,C` (R235). -/
def execSet7C (s : State) : Result := setOpd 7 (.reg .c) s

/-- `SET 7,D` (R235). -/
def execSet7D (s : State) : Result := setOpd 7 (.reg .d) s

/-- `SET 7,E` (R235). -/
def execSet7E (s : State) : Result := setOpd 7 (.reg .e) s

/-- `SET 7,H` (R235). -/
def execSet7H (s : State) : Result := setOpd 7 (.reg .h) s

/-- `SET 7,L` (R235). -/
def execSet7L (s : State) : Result := setOpd 7 (.reg .l) s

/-- `SET 7,(HL)` (R235). -/
def execSet7MemHL (s : State) : Result := setOpd 7 .memHL s

/-- `SET 7,A` (R235). -/
def execSet7A (s : State) : Result := setOpd 7 (.reg .a) s

end Sys2Proof.Machine
end

