-- ==== Sys2Proof/Machine/Control.lean ====
section
/-! DEFINITION. The meanings of the jumps, calls, returns and restarts (45_control_flow.md R250 to R262). No flag is written.
Each starts after the bytes of its instruction have been fetched (00_scope.md R14) and records its cost in m-cycles
(70_reset_and_hazards.md R620). -/

namespace Sys2Proof.Machine

/-- `PC <- a` at the cost `n` (R251, R253). -/
def jumpTo (a : Word) (n : Nat) (s : State) : Result := .next ((s.jump a).cost n)

/-- `JP cc,nn` (R252). -/
def jumpIf (cc : Cond) (nn : Word) (s : State) : Result :=
  .next (if s.cpu.holds cc then (s.jump nn).cost 4 else s.cost 3)

/-- `JR e` (R254). -/
def jumpRel (e : Byte) (s : State) : Result := .next ((s.jumpRelative e).cost 3)

/-- `JR cc,e` (R255). -/
def jumpRelIf (cc : Cond) (e : Byte) (s : State) : Result :=
  .next (if s.cpu.holds cc then (s.jumpRelative e).cost 3 else s.cost 2)

/-- `Push16(PC); PC <- a` at the cost `n` (R256, R262). -/
def callTo (a : Word) (n : Nat) (s : State) : Result := .next ((s.call a).cost n)

/-- `CALL cc,nn` (R257). -/
def callIf (cc : Cond) (nn : Word) (s : State) : Result :=
  .next (if s.cpu.holds cc then (s.call nn).cost 6 else s.cost 3)

/-- `RET` (R258). -/
def retStep (s : State) : Result := .next (s.returnFrom.cost 4)

/-- `RET cc` (R259). -/
def retIf (cc : Cond) (s : State) : Result :=
  .next (if s.cpu.holds cc then s.returnFrom.cost 5 else s.cost 2)

/-- `JR e` (R254). -/
def execJrRel (e : Byte) (s : State) : Result := jumpRel e s

/-- `JR NZ,e` (R255). -/
def execJrNZRel (e : Byte) (s : State) : Result := jumpRelIf .nz e s

/-- `JR Z,e` (R255). -/
def execJrZRel (e : Byte) (s : State) : Result := jumpRelIf .z e s

/-- `JR NC,e` (R255). -/
def execJrNCRel (e : Byte) (s : State) : Result := jumpRelIf .nc e s

/-- `JR C,e` (R255). -/
def execJrCRel (e : Byte) (s : State) : Result := jumpRelIf .c e s

/-- `RET NZ` (R259). -/
def execRetNZ (s : State) : Result := retIf .nz s

/-- `JP NZ,nn` (R252). -/
def execJpNZImm16 (nn : Word) (s : State) : Result := jumpIf .nz nn s

/-- `JP nn` (R251). -/
def execJpImm16 (nn : Word) (s : State) : Result := jumpTo nn 4 s

/-- `CALL NZ,nn` (R257). -/
def execCallNZImm16 (nn : Word) (s : State) : Result := callIf .nz nn s

/-- `RST 00h` (R262). -/
def execRst00 (s : State) : Result := callTo 0x0000 4 s

/-- `RET Z` (R259). -/
def execRetZ (s : State) : Result := retIf .z s

/-- `RET` (R258). -/
def execRet (s : State) : Result := retStep s

/-- `JP Z,nn` (R252). -/
def execJpZImm16 (nn : Word) (s : State) : Result := jumpIf .z nn s

/-- `CALL Z,nn` (R257). -/
def execCallZImm16 (nn : Word) (s : State) : Result := callIf .z nn s

/-- `CALL nn` (R256). -/
def execCallImm16 (nn : Word) (s : State) : Result := callTo nn 6 s

/-- `RST 08h` (R262). -/
def execRst08 (s : State) : Result := callTo 0x0008 4 s

/-- `RET NC` (R259). -/
def execRetNC (s : State) : Result := retIf .nc s

/-- `JP NC,nn` (R252). -/
def execJpNCImm16 (nn : Word) (s : State) : Result := jumpIf .nc nn s

/-- `CALL NC,nn` (R257). -/
def execCallNCImm16 (nn : Word) (s : State) : Result := callIf .nc nn s

/-- `RST 10h` (R262). -/
def execRst10 (s : State) : Result := callTo 0x0010 4 s

/-- `RET C` (R259). -/
def execRetC (s : State) : Result := retIf .c s

/-- `RETI` (R260). -/
def execReti (s : State) : Result := .next (s.returnFromInterrupt.cost 4)

/-- `JP C,nn` (R252). -/
def execJpCImm16 (nn : Word) (s : State) : Result := jumpIf .c nn s

/-- `CALL C,nn` (R257). -/
def execCallCImm16 (nn : Word) (s : State) : Result := callIf .c nn s

/-- `RST 18h` (R262). -/
def execRst18 (s : State) : Result := callTo 0x0018 4 s

/-- `RST 20h` (R262). -/
def execRst20 (s : State) : Result := callTo 0x0020 4 s

/-- `JP HL` (R253). -/
def execJpHL (s : State) : Result := jumpTo s.cpu.hl 1 s

/-- `RST 28h` (R262). -/
def execRst28 (s : State) : Result := callTo 0x0028 4 s

/-- `RST 30h` (R262). -/
def execRst30 (s : State) : Result := callTo 0x0030 4 s

/-- `RST 38h` (R262). -/
def execRst38 (s : State) : Result := callTo 0x0038 4 s

end Sys2Proof.Machine
end

