-- ==== Sys2Proof/Machine/Load16.lean ====
section
/-! DEFINITION. The meanings of the 16-bit loads and the stack (41_load16_stack.md R160 to R168).
Each starts after the bytes of its instruction have been fetched (00_scope.md R14) and records its cost in m-cycles
(70_reset_and_hazards.md R620). -/

namespace Sys2Proof.Machine

/-- `R16[p] <- nn` (R161). -/
def loadPair (p : Reg16) (nn : Word) (s : State) : Result := .next ((s.setCpu (s.cpu.setPair p nn)).cost 3)

/-- `Push16(R16S[p])` (R165, R166). -/
def pushPair (p : StackReg) (s : State) : Result := .next ((s.push16 (s.cpu.stackPair p)).cost 4)

/-- `R16S[p] <- Pop16()` (R167, R168). -/
def popPair (p : StackReg) (s : State) : Result :=
  .next ((s.dropTop16.setCpu (s.dropTop16.cpu.setStackPair p s.top16)).cost 3)

/-- `LD BC,nn` (R161). -/
def execLdBCImm16 (nn : Word) (s : State) : Result := loadPair .bc nn s

/-- `LD (nn),SP` (R162). -/
def execLdMemImm16SP (nn : Word) (s : State) : Result := .next ((s.write16 nn s.cpu.sp).cost 5)

/-- `LD DE,nn` (R161). -/
def execLdDEImm16 (nn : Word) (s : State) : Result := loadPair .de nn s

/-- `LD HL,nn` (R161). -/
def execLdHLImm16 (nn : Word) (s : State) : Result := loadPair .hl nn s

/-- `LD SP,nn` (R161). -/
def execLdSPImm16 (nn : Word) (s : State) : Result := loadPair .sp nn s

/-- `POP BC` (R168). -/
def execPopBC (s : State) : Result := popPair .bc s

/-- `PUSH BC` (R165). -/
def execPushBC (s : State) : Result := pushPair .bc s

/-- `POP DE` (R168). -/
def execPopDE (s : State) : Result := popPair .de s

/-- `PUSH DE` (R165). -/
def execPushDE (s : State) : Result := pushPair .de s

/-- `POP HL` (R168). -/
def execPopHL (s : State) : Result := popPair .hl s

/-- `PUSH HL` (R165). -/
def execPushHL (s : State) : Result := pushPair .hl s

/-- `POP AF` (R167). -/
def execPopAF (s : State) : Result := popPair .af s

/-- `PUSH AF` (R166). -/
def execPushAF (s : State) : Result := pushPair .af s

/-- `LD HL,SP+e` (R164). -/
def execLdHLSPRel (e : Byte) (s : State) : Result := .next (((s.setCpu (s.cpu.setHL (s.cpu.sp + sext16 e))).setFlags (spFlags s.cpu.sp e)).cost 3)

/-- `LD SP,HL` (R163). -/
def execLdSPHL (s : State) : Result := .next ((s.setSp s.cpu.hl).cost 2)

end Sys2Proof.Machine
end

