-- ==== Sys2Proof/Machine/Load8.lean ====
section
/-! DEFINITION. The meanings of the 8-bit loads (40_load8.md R130 to R149). No load reads or writes a flag (R141).
Each starts after the bytes of its instruction have been fetched (00_scope.md R14) and records its cost in m-cycles
(70_reset_and_hazards.md R620). -/

namespace Sys2Proof.Machine

/-- `R8[dst] <- R8[r]` (R130). -/
def loadRegReg (dst r : Reg8) (s : State) : Result := .next ((s.setCpu (s.cpu.setReg dst (s.cpu.reg r))).cost 1)

/-- `R8[dst] <- n` (R131). -/
def loadRegImm (dst : Reg8) (n : Byte) (s : State) : Result := .next ((s.setCpu (s.cpu.setReg dst n)).cost 2)

/-- `R8[dst] <- MemRead(HL, 1)` (R132). -/
def loadRegMem (dst : Reg8) (s : State) : Result := .next ((s.setCpu (s.cpu.setReg dst (s.read8 s.cpu.hl))).cost 2)

/-- `MemWrite(a, 1, v)` at the cost `n` (R133, R134, R137, R138, R140, R143, R145). -/
def storeAt (a : Word) (v : Byte) (n : Nat) (s : State) : Result := .next ((s.write8 a v).cost n)

/-- `A <- MemRead(a, 1)` at the cost `n` (R135, R136, R139, R142, R144). -/
def loadAccFrom (a : Word) (n : Nat) (s : State) : Result := .next ((s.setCpu (s.cpu.setReg .a (s.read8 a))).cost n)

/-- `A <- MemRead(HL, 1); HL <- HL + d` (R148, R149). -/
def loadAccStep (d : Word) (s : State) : Result :=
  .next ((s.setCpu ((s.cpu.setReg .a (s.read8 s.cpu.hl)).setHL (s.cpu.hl + d))).cost 2)

/-- `MemWrite(HL, 1, A); HL <- HL + d` (R146, R147). -/
def storeAccStep (d : Word) (s : State) : Result :=
  .next (((s.write8 s.cpu.hl s.cpu.a).setCpu ((s.write8 s.cpu.hl s.cpu.a).cpu.setHL (s.cpu.hl + d))).cost 2)

/-- `LD (BC),A` (R137). -/
def execLdMemBCA (s : State) : Result := storeAt s.cpu.bc s.cpu.a 2 s

/-- `LD B,n` (R131). -/
def execLdBImm8 (n : Byte) (s : State) : Result := loadRegImm .b n s

/-- `LD A,(BC)` (R135). -/
def execLdAMemBC (s : State) : Result := loadAccFrom s.cpu.bc 2 s

/-- `LD C,n` (R131). -/
def execLdCImm8 (n : Byte) (s : State) : Result := loadRegImm .c n s

/-- `LD (DE),A` (R138). -/
def execLdMemDEA (s : State) : Result := storeAt s.cpu.de s.cpu.a 2 s

/-- `LD D,n` (R131). -/
def execLdDImm8 (n : Byte) (s : State) : Result := loadRegImm .d n s

/-- `LD A,(DE)` (R136). -/
def execLdAMemDE (s : State) : Result := loadAccFrom s.cpu.de 2 s

/-- `LD E,n` (R131). -/
def execLdEImm8 (n : Byte) (s : State) : Result := loadRegImm .e n s

/-- `LD (HL+),A` (R146). -/
def execLdMemHLIncA (s : State) : Result := storeAccStep 1 s

/-- `LD H,n` (R131). -/
def execLdHImm8 (n : Byte) (s : State) : Result := loadRegImm .h n s

/-- `LD A,(HL+)` (R148). -/
def execLdAMemHLInc (s : State) : Result := loadAccStep 1 s

/-- `LD L,n` (R131). -/
def execLdLImm8 (n : Byte) (s : State) : Result := loadRegImm .l n s

/-- `LD (HL-),A` (R147). -/
def execLdMemHLDecA (s : State) : Result := storeAccStep (-1) s

/-- `LD (HL),n` (R134). -/
def execLdMemHLImm8 (n : Byte) (s : State) : Result := storeAt s.cpu.hl n 3 s

/-- `LD A,(HL-)` (R149). -/
def execLdAMemHLDec (s : State) : Result := loadAccStep (-1) s

/-- `LD A,n` (R131). -/
def execLdAImm8 (n : Byte) (s : State) : Result := loadRegImm .a n s

/-- `LD B,B` (R130). -/
def execLdBB (s : State) : Result := loadRegReg .b .b s

/-- `LD B,C` (R130). -/
def execLdBC (s : State) : Result := loadRegReg .b .c s

/-- `LD B,D` (R130). -/
def execLdBD (s : State) : Result := loadRegReg .b .d s

/-- `LD B,E` (R130). -/
def execLdBE (s : State) : Result := loadRegReg .b .e s

/-- `LD B,H` (R130). -/
def execLdBH (s : State) : Result := loadRegReg .b .h s

/-- `LD B,L` (R130). -/
def execLdBL (s : State) : Result := loadRegReg .b .l s

/-- `LD B,(HL)` (R132). -/
def execLdBMemHL (s : State) : Result := loadRegMem .b s

/-- `LD B,A` (R130). -/
def execLdBA (s : State) : Result := loadRegReg .b .a s

/-- `LD C,B` (R130). -/
def execLdCB (s : State) : Result := loadRegReg .c .b s

/-- `LD C,C` (R130). -/
def execLdCC (s : State) : Result := loadRegReg .c .c s

/-- `LD C,D` (R130). -/
def execLdCD (s : State) : Result := loadRegReg .c .d s

/-- `LD C,E` (R130). -/
def execLdCE (s : State) : Result := loadRegReg .c .e s

/-- `LD C,H` (R130). -/
def execLdCH (s : State) : Result := loadRegReg .c .h s

/-- `LD C,L` (R130). -/
def execLdCL (s : State) : Result := loadRegReg .c .l s

/-- `LD C,(HL)` (R132). -/
def execLdCMemHL (s : State) : Result := loadRegMem .c s

/-- `LD C,A` (R130). -/
def execLdCA (s : State) : Result := loadRegReg .c .a s

/-- `LD D,B` (R130). -/
def execLdDB (s : State) : Result := loadRegReg .d .b s

/-- `LD D,C` (R130). -/
def execLdDC (s : State) : Result := loadRegReg .d .c s

/-- `LD D,D` (R130). -/
def execLdDD (s : State) : Result := loadRegReg .d .d s

/-- `LD D,E` (R130). -/
def execLdDE (s : State) : Result := loadRegReg .d .e s

/-- `LD D,H` (R130). -/
def execLdDH (s : State) : Result := loadRegReg .d .h s

/-- `LD D,L` (R130). -/
def execLdDL (s : State) : Result := loadRegReg .d .l s

/-- `LD D,(HL)` (R132). -/
def execLdDMemHL (s : State) : Result := loadRegMem .d s

/-- `LD D,A` (R130). -/
def execLdDA (s : State) : Result := loadRegReg .d .a s

/-- `LD E,B` (R130). -/
def execLdEB (s : State) : Result := loadRegReg .e .b s

/-- `LD E,C` (R130). -/
def execLdEC (s : State) : Result := loadRegReg .e .c s

/-- `LD E,D` (R130). -/
def execLdED (s : State) : Result := loadRegReg .e .d s

/-- `LD E,E` (R130). -/
def execLdEE (s : State) : Result := loadRegReg .e .e s

/-- `LD E,H` (R130). -/
def execLdEH (s : State) : Result := loadRegReg .e .h s

/-- `LD E,L` (R130). -/
def execLdEL (s : State) : Result := loadRegReg .e .l s

/-- `LD E,(HL)` (R132). -/
def execLdEMemHL (s : State) : Result := loadRegMem .e s

/-- `LD E,A` (R130). -/
def execLdEA (s : State) : Result := loadRegReg .e .a s

/-- `LD H,B` (R130). -/
def execLdHB (s : State) : Result := loadRegReg .h .b s

/-- `LD H,C` (R130). -/
def execLdHC (s : State) : Result := loadRegReg .h .c s

/-- `LD H,D` (R130). -/
def execLdHD (s : State) : Result := loadRegReg .h .d s

/-- `LD H,E` (R130). -/
def execLdHE (s : State) : Result := loadRegReg .h .e s

/-- `LD H,H` (R130). -/
def execLdHH (s : State) : Result := loadRegReg .h .h s

/-- `LD H,L` (R130). -/
def execLdHL (s : State) : Result := loadRegReg .h .l s

/-- `LD H,(HL)` (R132). -/
def execLdHMemHL (s : State) : Result := loadRegMem .h s

/-- `LD H,A` (R130). -/
def execLdHA (s : State) : Result := loadRegReg .h .a s

/-- `LD L,B` (R130). -/
def execLdLB (s : State) : Result := loadRegReg .l .b s

/-- `LD L,C` (R130). -/
def execLdLC (s : State) : Result := loadRegReg .l .c s

/-- `LD L,D` (R130). -/
def execLdLD (s : State) : Result := loadRegReg .l .d s

/-- `LD L,E` (R130). -/
def execLdLE (s : State) : Result := loadRegReg .l .e s

/-- `LD L,H` (R130). -/
def execLdLH (s : State) : Result := loadRegReg .l .h s

/-- `LD L,L` (R130). -/
def execLdLL (s : State) : Result := loadRegReg .l .l s

/-- `LD L,(HL)` (R132). -/
def execLdLMemHL (s : State) : Result := loadRegMem .l s

/-- `LD L,A` (R130). -/
def execLdLA (s : State) : Result := loadRegReg .l .a s

/-- `LD (HL),B` (R133). -/
def execLdMemHLB (s : State) : Result := storeAt s.cpu.hl (s.cpu.reg .b) 2 s

/-- `LD (HL),C` (R133). -/
def execLdMemHLC (s : State) : Result := storeAt s.cpu.hl (s.cpu.reg .c) 2 s

/-- `LD (HL),D` (R133). -/
def execLdMemHLD (s : State) : Result := storeAt s.cpu.hl (s.cpu.reg .d) 2 s

/-- `LD (HL),E` (R133). -/
def execLdMemHLE (s : State) : Result := storeAt s.cpu.hl (s.cpu.reg .e) 2 s

/-- `LD (HL),H` (R133). -/
def execLdMemHLH (s : State) : Result := storeAt s.cpu.hl (s.cpu.reg .h) 2 s

/-- `LD (HL),L` (R133). -/
def execLdMemHLL (s : State) : Result := storeAt s.cpu.hl (s.cpu.reg .l) 2 s

/-- `LD (HL),A` (R133). -/
def execLdMemHLA (s : State) : Result := storeAt s.cpu.hl (s.cpu.reg .a) 2 s

/-- `LD A,B` (R130). -/
def execLdAB (s : State) : Result := loadRegReg .a .b s

/-- `LD A,C` (R130). -/
def execLdAC (s : State) : Result := loadRegReg .a .c s

/-- `LD A,D` (R130). -/
def execLdAD (s : State) : Result := loadRegReg .a .d s

/-- `LD A,E` (R130). -/
def execLdAE (s : State) : Result := loadRegReg .a .e s

/-- `LD A,H` (R130). -/
def execLdAH (s : State) : Result := loadRegReg .a .h s

/-- `LD A,L` (R130). -/
def execLdAL (s : State) : Result := loadRegReg .a .l s

/-- `LD A,(HL)` (R132). -/
def execLdAMemHL (s : State) : Result := loadRegMem .a s

/-- `LD A,A` (R130). -/
def execLdAA (s : State) : Result := loadRegReg .a .a s

/-- `LDH (n),A` (R143). -/
def execLdhMemImm8A (n : Byte) (s : State) : Result := storeAt (highPage n) s.cpu.a 3 s

/-- `LDH (C),A` (R145). -/
def execLdhMemCA (s : State) : Result := storeAt (highPage s.cpu.c) s.cpu.a 2 s

/-- `LD (nn),A` (R140). -/
def execLdMemImm16A (nn : Word) (s : State) : Result := storeAt nn s.cpu.a 4 s

/-- `LDH A,(n)` (R142). -/
def execLdhAMemImm8 (n : Byte) (s : State) : Result := loadAccFrom (highPage n) 3 s

/-- `LDH A,(C)` (R144). -/
def execLdhAMemC (s : State) : Result := loadAccFrom (highPage s.cpu.c) 2 s

/-- `LD A,(nn)` (R139). -/
def execLdAMemImm16 (nn : Word) (s : State) : Result := loadAccFrom nn 4 s

end Sys2Proof.Machine
end

