-- ==== Sys2Proof/Machine/System.lean ====
section
/-! DEFINITION. The meanings of the system and control instructions (46_system_control.md R270 to R281).
Each starts after the bytes of its instruction have been fetched (00_scope.md R14) and records its cost in m-cycles
(70_reset_and_hazards.md R620). -/

namespace Sys2Proof.Machine

/-- An undefined opcode (R281): the freeze, at the cost 1. -/
def freezeStep (s : State) : Result := .next (s.freeze.cost 1)

/-- The instruction of the `CB` map whose second byte is `op2` (R276, R110). -/
def execCB (op2 : Byte) (s : State) : Result :=
  match fieldX op2 with
  | 0 => rotOpd (rotOpOf (fieldY op2)) (opd8Of (fieldZ op2)) s
  | 1 => bitOpd (fieldY op2) (opd8Of (fieldZ op2)) s
  | 2 => resOpd (fieldY op2) (opd8Of (fieldZ op2)) s
  | _ => setOpd (fieldY op2) (opd8Of (fieldZ op2)) s

/-- `NOP` (R271). -/
def execNop (s : State) : Result := .next (s.cost 1)

/-- `STOP` (R273). -/
def execStop (s : State) : Result := .next ((s.setCpu (s.cpu.stopOrBug s.irq.pending)).cost 1)

/-- `HALT` (R272). -/
def execHalt (s : State) : Result := .next ((s.setCpu (s.cpu.haltOrBug s.irq.pending)).cost 1)

/-- `PREFIX CB` (R276). -/
def execPrefixCB (s : State) : Result := execCB s.fetch8.1 s.fetch8.2

/-- `ILLEGAL_D3` (R281). -/
def execIllegalD3 (s : State) : Result := freezeStep s

/-- `ILLEGAL_DB` (R281). -/
def execIllegalDB (s : State) : Result := freezeStep s

/-- `ILLEGAL_DD` (R281). -/
def execIllegalDD (s : State) : Result := freezeStep s

/-- `ILLEGAL_E3` (R281). -/
def execIllegalE3 (s : State) : Result := freezeStep s

/-- `ILLEGAL_E4` (R281). -/
def execIllegalE4 (s : State) : Result := freezeStep s

/-- `ILLEGAL_EB` (R281). -/
def execIllegalEB (s : State) : Result := freezeStep s

/-- `ILLEGAL_EC` (R281). -/
def execIllegalEC (s : State) : Result := freezeStep s

/-- `ILLEGAL_ED` (R281). -/
def execIllegalED (s : State) : Result := freezeStep s

/-- `DI` (R274). -/
def execDi (s : State) : Result := .next ((s.setCpu { s.cpu with ime := false, eiPending := false }).cost 1)

/-- `ILLEGAL_F4` (R281). -/
def execIllegalF4 (s : State) : Result := freezeStep s

/-- `EI` (R275). -/
def execEi (s : State) : Result := .next ((s.setCpu { s.cpu with eiPending := true }).cost 1)

/-- `ILLEGAL_FC` (R281). -/
def execIllegalFC (s : State) : Result := freezeStep s

/-- `ILLEGAL_FD` (R281). -/
def execIllegalFD (s : State) : Result := freezeStep s

end Sys2Proof.Machine
end

