-- ==== Sys2Proof/Machine/Cycle.lean ====
section
/-! DEFINITION. The parts of the system step (60_exceptions.md R300): the wake, the execution of one instruction or of
one waiting m-cycle, the commit of `EI`, the tick of the devices (R302) and the interrupt check. -/

namespace Sys2Proof.Machine

/-- One t-cycle of every device (R302): timer, PPU, APU, the APU with the counter already incremented. -/
def State.tick1 (s : State) : State :=
  let t := s.timer.tick1
  let p := s.ppu.tick1 s.mem
  (((s.setTimer t.1).setPpu p.1).setApu (s.apu.tick1 t.1.sysclk s.mem)).request (t.2 ||| p.2)

/-- `Tick(t)` (R302). -/
def State.tick : Nat → State → State
  | 0, s => s
  | n + 1, s => State.tick n s.tick1

/-- Whether the CPU waits (R321). -/
def Cpu.waiting (c : Cpu) : Bool := c.halted || c.stopped

/-- The wake of step 2 (R300, R320). -/
def State.wake (s : State) : State :=
  if s.cpu.waiting && s.irq.pending then s.setCpu { s.cpu with halted := false, stopped := false } else s

/-- Step 3 (R300): one waiting m-cycle (R321), or `ExecuteOne()` (R301). The cost is left in `cycles`. -/
def State.execute (s : State) : Result :=
  if s.cpu.waiting then .next (s.cost 1) else exec s.fetchInstr.1 s.fetchInstr.2

/-- Step 4 (R300): the commit of an `EI` that was pending when the step began. -/
def State.commitEi (arm : Bool) (s : State) : State :=
  if arm && s.cpu.eiPending then s.setCpu { s.cpu with ime := true, eiPending := false } else s

/-- The condition of step 6 (R300): the core is not frozen, `IME = 1` and an interrupt is pending. -/
def State.dispatches (s : State) : Bool := !s.cpu.frozen && s.cpu.ime && s.irq.pending

/-- Step 6 (R300): at most one interrupt is dispatched. -/
def State.interruptCheck (s : State) : State := if s.dispatches then State.tick 20 s.service else s

/-- Steps 4 to 6 (R300), after an instruction that left its cost in `cycles`. -/
def State.finish (arm : Bool) (s : State) : State :=
  (State.tick (4 * s.cycles) ((s.cost 0).commitEi arm)).interruptCheck

/-- An outcome with `f` applied to its next state. -/
def onNext {α β : Type} (f : α → β) (r : Host.Outcome α Fault Refusal) : Host.Outcome β Fault Refusal :=
  match r with
  | .next t => .next (f t)
  | .fault e => .fault e
  | .refused e => .refused e

/-! Placing an instruction for `State.withFetchWord` (log entry 12). -/

/-- `s` with the byte `v` in the storage behind the address `a`, whatever the locks and latches say; a location that is
no plain storage is left as it is. -/
def State.placeByte (s : State) (a : Word) (v : Byte) : State :=
  match regionOf a with
  | .rom => s.setCart { s.cart with rom := Memory.write s.cart.rom (s.cart.romOffset a.toNat) v }
  | .vram | .wram | .oam | .hram => s.poke a.toNat v
  | .echo => s.poke (a.toNat - 0x2000) v
  | .cartRam => s.setCart (s.cart.writeRam a.toNat v)
  | .unusable | .io | .ie => s

/-- `s` with three bytes placed from `PC` on. -/
def State.placeCode (s : State) (b0 b1 b2 : Byte) : State :=
  let pc := s.cpu.pc
  ((s.placeByte pc b0).placeByte (pc + 1) b1).placeByte (pc + 2) b2

/-- Whether the three bytes from `PC` on read back. -/
def State.codeReads (s : State) (b0 b1 b2 : Byte) : Bool :=
  let pc := s.cpu.pc
  s.read8 pc == b0 && s.read8 (pc + 1) == b1 && s.read8 (pc + 2) == b2

/-- The CPU ready to fetch at `PC`. -/
def Cpu.ready (c : Cpu) : Cpu := { c with halted := false, stopped := false, frozen := false, haltBug := false }

/-- `s` ready to fetch the three bytes: at `PC` where they read back, else at `C000` in WRAM, with `PC` moved there. -/
def State.withCode (s : State) (b0 b1 b2 : Byte) : State :=
  let r := s.setCpu s.cpu.ready
  if (r.placeCode b0 b1 b2).codeReads b0 b1 b2 then r.placeCode b0 b1 b2
  else (r.jump 0xC000).placeCode b0 b1 b2

end Sys2Proof.Machine
end

