-- ==== Sys2Proof/Machine/Step.lean ====
section
/-! DEFINITION. The system step (60_exceptions.md R300), the machine's one transition. -/

namespace Sys2Proof.Machine

/-- `SystemStep()` (R300). A frozen machine's step changes nothing. -/
def step (s : State) : Host.Outcome State Fault Refusal :=
  if s.cpu.frozen then .next s else onNext (State.finish s.cpu.eiPending) s.wake.execute

/-- `s` with the instruction of the table word `w` (of `nbits` bits, zeros above) where `step` fetches next. -/
def State.withFetchWord (s : State) (nbits w : Nat) : State :=
  let bs := tableBytes nbits w
  s.withCode (bs.getD 0 0) (bs.getD 1 0) (bs.getD 2 0)

end Sys2Proof.Machine
end

