-- ==== Sys2Proof/Machine/HostCalls.lean ====
section
/-! DEFINITION. The host's calls on the machine, which come between steps (00_scope.md R9): constructing it from a ROM
with the checks of 63_cartridge_mbc.md R560, the buttons (60_exceptions.md R343), the battery RAM (63 R555), the cold
reset (70_reset_and_hazards.md R600, R608), running a frame with its framebuffer and its sound (60 R304, 62_apu.md
R506), and a run of frames with the buttons of each (60 R343). -/

namespace Sys2Proof.Machine

/-- Why no machine is made (R560). The last two are cases that the spec leaves outside and has a model refuse (R522,
R555). -/
inductive LoadError where
  | truncatedRom
  | badLogo
  | headerChecksumMismatch
  | globalChecksumMismatch
  | unsupportedMbc (type : Byte)
  | unsupportedRamSize (code : Byte)
  | sramLengthMismatch
deriving DecidableEq, Repr

/-- What the cartridge-type byte selects (R521): `MBC_KIND`, `HAS_BATTERY`, `HAS_RTC`. -/
def cartType (t : Byte) : Option (MbcKind × Bool × Bool) :=
  match t.toNat with
  | 0x00 => some (.noMbc, false, false)
  | 0x01 => some (.mbc1, false, false)
  | 0x02 => some (.mbc1, false, false)
  | 0x03 => some (.mbc1, true, false)
  | 0x05 => some (.mbc2, false, false)
  | 0x06 => some (.mbc2, true, false)
  | 0x08 => some (.noMbc, false, false)
  | 0x09 => some (.noMbc, true, false)
  | 0x0F => some (.mbc3, true, true)
  | 0x10 => some (.mbc3, true, true)
  | 0x11 => some (.mbc3, false, false)
  | 0x12 => some (.mbc3, false, false)
  | 0x13 => some (.mbc3, true, false)
  | _ => none

/-- The RAM size in bytes of the header code (R522). -/
def ramSizeOf (code : Byte) : Option Nat :=
  match code.toNat with
  | 0 => some 0
  | 1 => some 0x800
  | 2 => some 0x2000
  | 3 => some 0x8000
  | 4 => some 0x20000
  | _ => none

/-- The 48-byte logo at `0104–0133` (R560). -/
def logo : List Byte :=
  [0xCE, 0xED, 0x66, 0x66, 0xCC, 0x0D, 0x00, 0x0B, 0x03, 0x73, 0x00, 0x83, 0x00, 0x0C, 0x00, 0x0D] ++
  [0x00, 0x08, 0x11, 0x1F, 0x88, 0x89, 0x00, 0x0E, 0xDC, 0xCC, 0x6E, 0xE6, 0xDD, 0xDD, 0xD9, 0x99] ++
  [0xBB, 0xBB, 0x67, 0x63, 0x6E, 0x0E, 0xEC, 0xCC, 0xDD, 0xDC, 0x99, 0x9F, 0xBB, 0xB9, 0x33, 0x3E]

/-- The bytes `from .. from + n - 1` of a ROM. -/
def romSlice (rom : List Byte) (start n : Nat) : List Byte := (rom.drop start).take n

/-- The header checksum (R560): over `0134–014C`. -/
def headerChecksum (rom : List Byte) : Byte := (romSlice rom 0x134 25).foldl (fun x b => x - b - 1) 0

/-- The global checksum (R560): the sum of every byte of the file but the two of the checksum itself. DESIGN CHOICE (log
entry 24): the bytes of an overlong file beyond the length that its header gives are summed too. -/
def globalChecksum (rom : List Byte) : Word :=
  (rom.take 0x14E ++ rom.drop 0x150).foldl (fun x b => x + zext16 b) 0

/-- A ROM byte of the header. -/
def headerByte (rom : List Byte) (a : Nat) : Byte := rom.getD a 0

/-- The checks of R560, in its order; the three of the header are skipped with `skip`. DESIGN CHOICE (log entry 24): R560
refuses a file shorter than `2^(5 + ROM[0x0148])` KiB and says nothing of a longer one, which is accepted. -/
def checkRom (rom : List Byte) (skip : Bool) : Except LoadError Unit :=
  if rom.length < 0x150 ∨ rom.length < 0x8000 ∨ rom.length < 2 ^ (5 + (headerByte rom 0x148).toNat) * 1024 then
    .error .truncatedRom
  else if !skip && romSlice rom 0x104 48 != logo then .error .badLogo
  else if !skip && headerChecksum rom != headerByte rom 0x14D then .error .headerChecksumMismatch
  else if !skip && globalChecksum rom != hiLo (headerByte rom 0x14E) (headerByte rom 0x14F) then
    .error .globalChecksumMismatch
  else if (cartType (headerByte rom 0x147)).isNone then .error (.unsupportedMbc (headerByte rom 0x147))
  else .ok ()

/-- The bytes that `CartRAM` starts with (R555, R602): an argument whose length is not the RAM size is refused on every
cartridge; with a battery it is `SRAM_INIT`, of which the MBC2 keeps the low nibble of each byte (R540); otherwise the
RAM is zeroed. -/
def sramInit (kind : MbcKind) (battery : Bool) (size : Nat) (sram : Option (List Byte)) :
    Except LoadError (List Host.Cell) :=
  match sram with
  | none => .ok []
  | some bs =>
    if bs.length ≠ size then .error .sramLengthMismatch
    else if !battery then .ok []
    else .ok (Memory.ofBytes 0 (if kind = .mbc2 then bs.map (fun b => b &&& 0x0F) else bs))

/-- The RAM size of a cartridge (R522, R540): 512 for the MBC2, whatever its header says. -/
def cartRamSize (kind : MbcKind) (code : Byte) : Except LoadError Nat :=
  if kind = .mbc2 then .ok 512
  else
    match ramSizeOf code with
    | some n => .ok n
    | none => .error (.unsupportedRamSize code)

/-- The cartridge of a ROM, with its controller at reset (R521, R522, R520). DESIGN CHOICE (log entry 24): the surplus
bytes of an overlong file stand in `rom`, where the reduction of the bank modulo `NB` (R522) keeps the bus from them. -/
def makeCart (rom : List Byte) (sram : Option (List Byte)) (kind : MbcKind) (battery rtc : Bool) :
    Except LoadError Cart :=
  match cartRamSize kind (headerByte rom 0x149) with
  | .error e => .error e
  | .ok size =>
    match sramInit kind battery size sram with
    | .error e => .error e
    | .ok ram =>
      .ok (Cart.resetController
        { Cart.blank with
          rom := Memory.ofBytes 0 rom
          kind := kind
          romBanks := 2 ^ (1 + (headerByte rom 0x148).toNat)
          ramSize := size
          hasBattery := battery
          hasRtc := rtc
          ram := ram })

/-- `new(rom_bytes, sram_bytes_opt, options)` (R9, R560): the reset state, or the error. -/
def newMachine (k : SysclkReset) (rom : List Byte) (sram : Option (List Byte)) (skip : Bool) :
    Except LoadError State :=
  match checkRom rom skip with
  | .error e => .error e
  | .ok _ =>
    match cartType (headerByte rom 0x147) with
    | none => .error (.unsupportedMbc (headerByte rom 0x147))
    | some (kind, battery, rtc) =>
      match makeCart rom sram kind battery rtc with
      | .error e => .error e
      | .ok cart => .ok (State.cold k cart)

/-- `set_buttons(mask)` (R343). -/
def State.setButtons (s : State) (mask : Byte) : State :=
  (s.setJoypad (s.joypad.setButtons mask).1).request (s.joypad.setButtons mask).2

/-- `snapshot_sram()` (R555): the `CartRAM` bytes when the cartridge has a battery; MBC2 nibbles as `0xF0 | nibble`. -/
def State.snapshotSram (s : State) : Option (List Byte) :=
  if s.cart.hasBattery then
    let bs := Memory.toBytes s.cart.ram 0 s.cart.ramSize
    some (if s.cart.kind = .mbc2 then bs.map (fun b => 0xF0 ||| b) else bs)
  else none

/-- `reset()` (R600, R608): the cold reset, `CartRAM` and the ROM kept. The count of clock draws is the model's own and
goes on (log entry 4). -/
def State.hostReset (k : SysclkReset) (s : State) : State :=
  (State.cold k s.cart.resetController).setDraws s.draws

/-! The sound of a frame (62_apu.md R506). -/

/-- One sample, left and right (R505). -/
abbrev Sample := BitVec 16 × BitVec 16

/-- `AudioOut()` after each t-cycle of `Tick(n)` (R505: it is defined at every t-cycle). -/
def State.tickAudio : Nat → State → List Sample
  | 0, _ => []
  | n + 1, s => s.tick1.apu.audioOut :: State.tickAudio n s.tick1

/-- `AudioOut()` after each t-cycle of steps 4 to 6 (60 R300): those of the instruction, then those of a dispatch. -/
def State.finishAudio (arm : Bool) (s : State) : List Sample :=
  let u := (s.cost 0).commitEi arm
  let v := State.tick (4 * s.cycles) u
  State.tickAudio (4 * s.cycles) u ++ (if v.dispatches then State.tickAudio 20 v.service else [])

/-- `AudioOut()` after each t-cycle of one system step. -/
def State.stepAudio (s : State) : List Sample :=
  if s.cpu.frozen then []
  else
    match s.wake.execute with
    | .next t => t.finishAudio s.cpu.eiPending
    | .fault _ => []
    | .refused _ => []

/-- What `step_frame()` yields (R9, R304): the state, in which the framebuffer stands, and `AudioOut()` after each t-cycle
of the call. -/
structure Frame where
  state : State
  audio : List Sample
deriving DecidableEq, Repr

/-- The framebuffer that `step_frame()` yields (R9, 61_ppu.md R430). -/
def Frame.framebuffer (f : Frame) : Vector (Vector Shade 160) 144 := f.state.ppu.framebuffer

/-- `audio_samples` (R506): the samples at the t-cycles of the call that the host picks, counted from 0 (log entry 25). -/
def Frame.samples (pick : Nat → Bool) (f : Frame) : List Sample :=
  (f.audio.zipIdx.filter (fun x => pick x.2)).map Prod.fst

/-- A frame with the sound of the steps before it put in front. -/
def Frame.after (sound : List Sample) (f : Frame) : Frame := { f with audio := sound ++ f.audio }

/-- The loop of `step_frame()` (R304), with a bound on the steps (log entry 17). -/
def State.runFrame : Nat → State → Host.Outcome Frame Fault Refusal
  | 0, s => .next ⟨s, []⟩
  | n + 1, s =>
    match step s with
    | .next t =>
      if t.ppu.frameDone || t.cpu.frozen then .next ⟨t, s.stepAudio⟩
      else onNext (Frame.after s.stepAudio) (State.runFrame n t)
    | .fault e => .fault e
    | .refused e => .refused e

/-- `step_frame()` (R304): a frozen machine is left unchanged and makes no sound. -/
def State.stepFrame (bound : Nat) (s : State) : Host.Outcome Frame Fault Refusal :=
  if s.cpu.frozen then .next ⟨s, []⟩
  else State.runFrame bound (s.setPpu { s.ppu with frameDone := false })

/-- A run with the sequence of button masks that R343 has a model take, one for each frame boundary: for each mask in
turn `set_buttons(mask)`, the machine's only input event, and then `step_frame()`. It answers the frames in order, and
the last of them holds the state that the run ends in (log entry 6). -/
def State.play (bound : Nat) : List Byte → State → Host.Outcome (List Frame) Fault Refusal
  | [], _ => .next []
  | mask :: masks, s =>
    match (s.setButtons mask).stepFrame bound with
    | .next f => onNext (fun fs => f :: fs) (State.play bound masks f.state)
    | .fault e => .fault e
    | .refused e => .refused e

end Sys2Proof.Machine
end

