-- ==== Sys2Proof/Safety.lean ====
section
/-! DEFINITION. What counts as a safe run, and the invariants that claims about every step use. -/

namespace Sys2Proof.Machine

/-- A run is safe while the core is not frozen (00_scope.md R8: the freeze is never a successful end). -/
def Safe (s : State) : Prop := s.cpu.frozen = false

/-- Whether an address is one of the machine's own storage bytes: VRAM, WRAM, OAM, wave RAM, HRAM (20_memory.md R64,
R66, R68, R71, 62_apu.md R470). -/
def isStorage (a : Nat) : Bool :=
  (decide (0x8000 ≤ a) && decide (a < 0xA000)) || (decide (0xC000 ≤ a) && decide (a < 0xE000)) ||
  (decide (0xFE00 ≤ a) && decide (a < 0xFEA0)) || (decide (0xFF30 ≤ a) && decide (a < 0xFF40)) ||
  (decide (0xFF80 ≤ a) && decide (a < 0xFFFF))

/-- The machine's memory is in its canonical form and lists storage bytes only. -/
def MemInv (s : State) : Prop := Memory.wf s.mem ∧ ∀ c ∈ s.mem, isStorage c.1 = true

/-- The line schedule of the PPU (61_ppu.md R404, R410, R414): with the LCD on, the mode is the one of the line and the
dot; with it off, the PPU stands at line 0, dot 0, mode 0. -/
def Ppu.onSchedule (p : Ppu) : Prop :=
  p.ly.toNat ≤ 153 ∧ p.dot < 456 ∧
  (p.lcdOn = true →
    p.mode =
      if 144 ≤ p.ly.toNat then .vblank
      else if p.dot < 80 then .oamScan
      else if p.dot < 252 then .draw
      else .hblank) ∧
  (p.lcdOn = false → p.mode = .hblank ∧ p.ly = 0 ∧ p.dot = 0)

/-- The schedule, `stat_prev` equal to the STAT line (R413), and the scanned sprites: at most ten, in ascending order
(R400). -/
def PpuInv (s : State) : Prop :=
  s.ppu.onSchedule ∧ s.ppu.statPrev = s.ppu.statLine ∧ s.ppu.lineSprites.length ≤ 10 ∧
  s.ppu.lineSprites.Pairwise (fun i j => i.val < j.val)

/-- The timer at an instruction boundary (60_exceptions.md R340): `sysclk` is a multiple of 4, and the countdown is 0
or 4. -/
def TimerInv (s : State) : Prop := s.timer.sysclk.toNat % 4 = 0 ∧ (s.timer.reload = 0 ∨ s.timer.reload = 4)

/-- A channel whose DAC is off is not enabled (62_apu.md R495). -/
def DacInv (s : State) : Prop :=
  (s.apu.ch1.enabled = true → s.apu.ch1.envInit ≠ 0 ∨ s.apu.ch1.envDir = true) ∧
  (s.apu.ch2.enabled = true → s.apu.ch2.envInit ≠ 0 ∨ s.apu.ch2.envDir = true) ∧
  (s.apu.ch3.enabled = true → s.apu.ch3.dac = true) ∧
  (s.apu.ch4.enabled = true → s.apu.ch4.envInit ≠ 0 ∨ s.apu.ch4.envDir = true)

/-- No bank register of the high ROM window holds 0 (63_cartridge_mbc.md R530, R539, R545). -/
def BankInv (s : State) : Prop := s.cart.romBankLo ≠ 0 ∧ s.cart.romBank2 ≠ 0 ∧ s.cart.romBank3 ≠ 0

/-- The cartridge's RAM is in its canonical form. -/
def CartRamInv (s : State) : Prop := Memory.wf s.cart.ram

/-! Terms that several claims use. -/

/-- `s` after an instruction that writes the accumulator and the four flags and costs `m` m-cycles. -/
def accResult (s : State) (a : Byte) (z n h c : Bool) (m : Nat) : State :=
  { s with cpu := { s.cpu with a := a, zf := z, nf := n, hf := h, cf := c }, cycles := m }

/-- `s` after an instruction that writes the four flags and costs `m` m-cycles. -/
def flagsResult (s : State) (z n h c : Bool) (m : Nat) : State :=
  { s with cpu := { s.cpu with zf := z, nf := n, hf := h, cf := c }, cycles := m }

/-- `s` with the program counter at `a`, after an instruction that costs `m` m-cycles. -/
def pcResult (s : State) (a : Word) (m : Nat) : State := { s with cpu := { s.cpu with pc := a }, cycles := m }

/-- A cost that is `r` for a register operand and `m` for the memory byte at `HL`. -/
def operandCost (o : Opd8) (r m : Nat) : Nat :=
  match o with
  | .reg _ => r
  | .memHL => m

/-- The address of the storage byte that a bus address names: an echo address names the byte 8 KiB below (20_memory.md
R67), every other address names itself. -/
def cellOf (a : Word) : Nat := if regionOf a = .echo then a.toNat - 0x2000 else a.toNat

/-- Whether an address is plain RAM, which has no lock and no reaction: WRAM, its echo, HRAM (R66, R67, R71). -/
def plainRam (a : Word) : Bool := regionOf a == .wram || regionOf a == .echo || regionOf a == .hram

/-- The packed decimal byte of a number below 100. -/
def bcd (x : Nat) : Byte := BitVec.ofNat 8 (x / 10 * 16 + x % 10)

/-- The RAM window `A000–BFFF` shows RAM bank `r` (63_cartridge_mbc.md R522): an access at `a` is one of the byte of
`CartRAM` at `0x2000` times the bank plus the offset of `a`, modulo the RAM size, a byte written there reads back through
every address of that byte, and every other address reads as before; without RAM, reads give `0xFF` and writes are
dropped. -/
def ShowsRamBank (s : State) (r : Nat) : Prop :=
  ∀ (a b : Word) (v : Byte), 0xA000 ≤ a.toNat → a.toNat < 0xC000 → 0xA000 ≤ b.toNat → b.toNat < 0xC000 →
    let off := fun (x : Word) => (r * 0x2000 + (x.toNat - 0xA000)) % s.cart.ramSize
    (s.cart.ramSize = 0 → s.read8 a = 0xFF ∧ s.write8 a v = s) ∧
    (s.cart.ramSize ≠ 0 → s.read8 a = Memory.read s.cart.ram (off a) ∧
      s.write8 a v = { s with cart := { s.cart with ram := Memory.write s.cart.ram (off a) v } } ∧
      (s.write8 a v).read8 b = if off b = off a then v else s.read8 b)

/-- The RAM window `A000–BFFF` shows nothing: reads give `0xFF`, writes are dropped (R535, R540, R548). -/
def ShowsNoRam (s : State) : Prop :=
  ∀ (a : Word) (v : Byte), 0xA000 ≤ a.toNat → a.toNat < 0xC000 → s.read8 a = 0xFF ∧ s.write8 a v = s

/-- `n` ticks of a PPU whose memory stays `m`. -/
def Ppu.ticks (m : List Host.Cell) : Nat → Ppu → Ppu
  | 0, p => p
  | n + 1, p => Ppu.ticks m n (p.tick1 m).1

/-- How many VBlank requests `n` ticks make. -/
def Ppu.vblanks (m : List Host.Cell) : Nat → Ppu → Nat
  | 0, _ => 0
  | n + 1, p => (if (p.tick1 m).2.getLsbD 0 then 1 else 0) + Ppu.vblanks m n (p.tick1 m).1

/-- `n` ticks of the timer alone. -/
def Timer.ticks : Nat → Timer → Timer
  | 0, t => t
  | n + 1, t => Timer.ticks n t.tick1.1

/-- `n` clocks of the frame sequencer. -/
def Apu.sequencerClocks : Nat → Apu → Apu
  | 0, a => a
  | n + 1, a => Apu.sequencerClocks n a.sequencerClock

end Sys2Proof.Machine
end

