-- ==== Sys2Proof/Certificates/Slice0/Obligations.lean ====
section
/-! DEFINITION. The statements for the provers, each with the rules of spec/ it rests on. -/

open Sys2Proof Sys2Proof.Machine

/-- For every whole instruction, with every operand value its encoding admits, and whatever bytes follow: decoding its
bytes gives the instruction and its length. (30_encoding.md rules R100 to R113; opcode_table.json.) -/
def Obligations.DecodeOfEncode : Prop :=
  ∀ (i : Instr) (rest : List Byte), WellFormed i → decode (encode i ++ rest) = .ok (i, (encode i).length)

/-- Any three bytes, whatever follows, decode to a whole instruction whose length is 1, 2 or 3 by byte 0 alone, and
the bytes of that length are the encoding of the instruction read. (30_encoding.md rules R100, R101, R112, R113.) -/
def Obligations.EveryByteStringDecodes : Prop :=
  ∀ (b0 b1 b2 : Byte) (rest : List Byte), ∃ i,
    decode (b0 :: b1 :: b2 :: rest) = .ok (i, lengthOf b0) ∧ WellFormed i ∧
    1 ≤ lengthOf b0 ∧ lengthOf b0 ≤ 3 ∧ encode i = (b0 :: b1 :: b2 :: rest).take (lengthOf b0)

/-- One word of each family, written out from its encoding: 41 is LD B,C; 36 42 is LD (HL),0x42; 21 34 12 is LD
HL,0x1234; 8B is ADC A,E; E8 02 is ADD SP,2; 17 is RLA; CB 37 is SWAP A; CB 7E is BIT 7,(HL); D4 00 40 is CALL
NC,0x4000; EF is RST 28h; 76 is HALT; F1 is POP AF. (30_encoding.md rules R105 to R110; 40_load8.md rule R130;
45_control_flow.md rule R257.) -/
def Obligations.DecodeWords : Prop :=
  decode [0x41] = .ok (.ldBC, 1) ∧ decode [0x36, 0x42] = .ok (.ldMemHLImm8 0x42, 2) ∧
  decode [0x21, 0x34, 0x12] = .ok (.ldHLImm16 0x1234, 3) ∧ decode [0x8B] = .ok (.adcAE, 1) ∧
  decode [0xE8, 0x02] = .ok (.addSPRel 0x02, 2) ∧ decode [0x17] = .ok (.rla, 1) ∧
  decode [0xCB, 0x37] = .ok (.swapA, 2) ∧ decode [0xCB, 0x7E] = .ok (.bit7MemHL, 2) ∧
  decode [0xD4, 0x00, 0x40] = .ok (.callNCImm16 0x4000, 3) ∧ decode [0xEF] = .ok (.rst28, 1) ∧
  decode [0x76] = .ok (.halt, 1) ∧ decode [0xF1] = .ok (.popAF, 1)

/-- When the CPU neither waits nor is frozen and halt_bug is 0, and the bytes at PC decode to a whole instruction of n
bytes, the step executes that instruction with PC advanced by n, and then does the rest of the system step: the commit
of an EI that was pending at the start, 4 t-cycles of every device for each m-cycle of the cost, and the interrupt
check. (60_exceptions.md rules R300, R301, R302; 00_scope.md rules R13, R14.) -/
def Obligations.StepRunsDecodedInstruction : Prop :=
  ∀ (s : State) (i : Instr) (n : Nat), s.cpu.frozen = false → s.cpu.waiting = false → s.cpu.haltBug = false →
    decode [s.read8 s.cpu.pc, s.read8 (s.cpu.pc + 1), s.read8 (s.cpu.pc + 2)] = .ok (i, n) → WellFormed i →
    step s = onNext (State.finish s.cpu.eiPending) (exec i (s.jump (s.cpu.pc + BitVec.ofNat 16 n)))

/-- After an instruction that left its cost m: the EI that was pending at the start of the step and still is sets IME;
the devices advance 4m t-cycles; then, when the core is not frozen, IME is 1 and an interrupt is pending, one
interrupt is dispatched and the devices advance 20 t-cycles more, else nothing more happens. The tick itself never
changes the CPU registers, the cartridge, the RAMs, the joypad or the serial registers. (60_exceptions.md rules R300,
R302, R315, R317.) -/
def Obligations.RestOfTheStep : Prop :=
  (∀ (arm : Bool) (s : State), ∃ u v : State,
    u = (if arm = true ∧ s.cpu.eiPending = true
      then { s with cpu := { s.cpu with ime := true, eiPending := false }, cycles := 0 } else { s with cycles := 0 }) ∧
    v = State.tick (4 * s.cycles) u ∧
    (v.cpu.frozen = false → v.cpu.ime = true → v.irq.pending = true →
      State.finish arm s = State.tick 20 v.service) ∧
    (v.cpu.frozen = true ∨ v.cpu.ime = false ∨ v.irq.pending = false → State.finish arm s = v)) ∧
  (∀ (n : Nat) (s : State), (State.tick n s).cpu = s.cpu ∧ (State.tick n s).cart = s.cart ∧
    (State.tick n s).mem = s.mem ∧ (State.tick n s).joypad = s.joypad ∧ (State.tick n s).serial = s.serial ∧
    (State.tick n s).irq.ie = s.irq.ie)

/-- When halt_bug is 1 (and the CPU neither waits nor is frozen), the step fetches the opcode at PC without advancing
PC, so the first operand byte is the opcode byte again; it executes what these bytes decode to with PC one lower than
otherwise, and halt_bug is consumed. (60_exceptions.md rule R322; 10_state.md rule R31; 00_scope.md rule R13.) -/
def Obligations.HaltBugFetch : Prop :=
  ∀ (s : State) (i : Instr) (n : Nat), s.cpu.frozen = false → s.cpu.waiting = false → s.cpu.haltBug = true →
    decode [s.read8 s.cpu.pc, s.read8 s.cpu.pc, s.read8 (s.cpu.pc + 1)] = .ok (i, n) → WellFormed i →
    step s = onNext (State.finish s.cpu.eiPending)
      (exec i { s with cpu := { s.cpu with pc := s.cpu.pc + BitVec.ofNat 16 (n - 1), haltBug := false } })

/-- From every state the step answers a next state, and so does every instruction: nothing faults and nothing is
refused. (60_exceptions.md rule R310 (the freeze is the only exception); 00_scope.md rule R7.) -/
def Obligations.StepAlwaysAnswers : Prop :=
  (∀ s : State, ∃ t, step s = .next t) ∧ (∀ (i : Instr) (s : State), ∃ t, exec i s = .next t)

/-- frozen is 0 at reset. Each of the 11 undefined opcodes sets it, and no other instruction does. While it is 1 a
step changes nothing; only the reset clears it. (R30.) -/
def Obligations.FreezeBit : Prop :=
  State.reset.cpu.frozen = false ∧
  (∀ (k : SysclkReset) (s : State), (s.hostReset k).cpu.frozen = false) ∧
  (∀ (op : IllegalOp) (s : State), ∃ t, exec (.illegal op) s = .next t ∧ t.cpu.frozen = true) ∧
  (∀ (i : Instr) (s t : State), exec i s = .next t → t.cpu.frozen = true →
    s.cpu.frozen = true ∨ ∃ op, i = .illegal op) ∧
  (∀ s : State, s.cpu.frozen = true → step s = .next s)

/-- Each of the 11 undefined opcodes answers a next state in which frozen is 1 and the cost is 1 and nothing else has
changed; the step in which it executes commits a pending EI, ticks the devices by 4 t-cycles and dispatches no
interrupt. (46_system_control.md rule R281; 60_exceptions.md rules R300, R310.) -/
def Obligations.FreezeResult : Prop :=
  ∀ (op : IllegalOp) (s : State),
    exec (.illegal op) s = .next { s with cpu := { s.cpu with frozen := true }, cycles := 1 } ∧
    ∀ (arm : Bool) (t : State), exec (.illegal op) s = .next t →
      State.finish arm t = State.tick 4 ((t.cost 0).commitEi arm)

/-- While halted or stopped with nothing pending, a step fetches nothing and lets one m-cycle pass: with no EI
pending, and with IME 0 or nothing pending after the tick, it leaves every CPU register, RAM and the cartridge as they
were and advances the timer counter by 4. With an interrupt pending, whatever IME is, the step is the step of the same
state with both wait bits 0. With no IE bit set a waiting CPU waits on. (60_exceptions.md rules R300, R320, R321,
R333; 46_system_control.md rules R272, R273.) -/
def Obligations.Waiting : Prop :=
  (∀ s : State, s.cpu.frozen = false → s.cpu.waiting = true → s.irq.pending = false → s.cpu.eiPending = false →
    s.cpu.ime = false ∨ (State.tick 4 s).irq.pending = false →
    ∃ t, step s = .next t ∧ t.cpu = s.cpu ∧ t.mem = s.mem ∧ t.cart = s.cart ∧
      t.timer.sysclk = s.timer.sysclk + 4 ∧ t.irq = (State.tick 4 s).irq) ∧
  (∀ s : State, s.cpu.frozen = false → s.cpu.waiting = true → s.irq.pending = true →
    step s = step { s with cpu := { s.cpu with halted := false, stopped := false } }) ∧
  (∀ s : State, s.cpu.waiting = true → s.irq.ie = 0 →
    ∃ t, step s = .next t ∧ t.cpu.waiting = true ∧ t.irq.ie = 0 ∧ t.cpu.pc = s.cpu.pc)

/-- With an interrupt pending and the stack in plain RAM, a dispatch serves the lowest bit set in both IE and IF: that
IF bit is cleared and no other; IME, the wait bits and halt_bug become 0; SP goes down by 2; PC becomes 0x40 + 8 times
the bit; the other CPU registers and all memory but the two stack bytes stay. The byte at the old SP - 1 is the high
byte and the byte at SP - 2 the low byte of the old PC; only when halt_bug was 1 (EI followed by HALT) and the
parameter EI_HALT_RETURN, which is left open, is at_halt are they those of the old PC - 1. (60_exceptions.md rules
R312, R313, R314, R315, R323; 20_memory.md rule R76; 92_eei_decisions.md D11 (an open parameter, log entry 3).) -/
def Obligations.InterruptDispatch : Prop :=
  ∀ s : State, s.irq.pending = true → plainRam (s.cpu.sp - 1) = true → plainRam (s.cpu.sp - 2) = true →
    ∃ (b : Nat) (r : Word), b < 5 ∧ (s.irq.ie &&& s.irq.iflag).getLsbD b = true ∧
      (∀ j, j < b → (s.irq.ie &&& s.irq.iflag).getLsbD j = false) ∧
      (s.cpu.haltBug = false ∨ Config.eiHaltReturn = .after → r = s.cpu.pc) ∧
      (s.cpu.haltBug = true → Config.eiHaltReturn = .atHalt → r = s.cpu.pc - 1) ∧
      s.service.cpu = { s.cpu with
        ime := false, halted := false, stopped := false, haltBug := false, sp := s.cpu.sp - 2,
        pc := BitVec.ofNat 16 (0x40 + 8 * b) } ∧
      s.service.irq.ie = s.irq.ie ∧
      (∀ j, s.service.irq.iflag.getLsbD j = (s.irq.iflag.getLsbD j && decide (j ≠ b))) ∧
      s.service.read8 (s.cpu.sp - 1) = hi r ∧ s.service.read8 (s.cpu.sp - 2) = lo r ∧
      (∀ a : Nat, a ≠ cellOf (s.cpu.sp - 1) → a ≠ cellOf (s.cpu.sp - 2) →
        Memory.read s.service.mem a = Memory.read s.mem a)

/-- A step that executes EI with IME = 0 and no EI pending leaves IME = 0 and dispatches nothing. The step that
executes the next instruction, whatever it is but DI (fetched in the plain way or after a bugged HALT), sets IME and
clears ei_pending before its tick and its interrupt check, so that it dispatches when the core is not frozen and an
interrupt is then pending, and not otherwise; for a NOP in that place the whole next state is given. A DI there
cancels the EI. (46_system_control.md rules R274, R275; 60_exceptions.md rules R300, R322.) -/
def Obligations.EiTakesEffectOneInstructionLate : Prop :=
  (∀ s : State, s.cpu.frozen = false → s.cpu.waiting = false → s.cpu.haltBug = false → s.cpu.ime = false →
    s.cpu.eiPending = false → s.read8 s.cpu.pc = 0xFB →
    ∃ t, step s = .next t ∧ t.cpu = { s.cpu with eiPending := true, pc := s.cpu.pc + 1 }) ∧
  (∀ (s : State) (i : Instr) (n : Nat), s.cpu.frozen = false → s.cpu.waiting = false → s.cpu.eiPending = true →
    (if s.cpu.haltBug then decode [s.read8 s.cpu.pc, s.read8 s.cpu.pc, s.read8 (s.cpu.pc + 1)]
      else decode [s.read8 s.cpu.pc, s.read8 (s.cpu.pc + 1), s.read8 (s.cpu.pc + 2)]) = .ok (i, n) →
    WellFormed i → i ≠ .di →
    ∃ u v t : State,
      exec i { s with cpu := { s.cpu with
        pc := s.cpu.pc + BitVec.ofNat 16 (if s.cpu.haltBug then n - 1 else n), haltBug := false } } = .next u ∧
      v = State.tick (4 * u.cycles) { u with cpu := { u.cpu with ime := true, eiPending := false }, cycles := 0 } ∧
      v.cpu.ime = true ∧ v.cpu.eiPending = false ∧ step s = .next t ∧
      (v.cpu.frozen = false → v.irq.pending = true → t = State.tick 20 v.service) ∧
      (v.cpu.frozen = true ∨ v.irq.pending = false → t = v)) ∧
  (∀ s : State, s.cpu.frozen = false → s.cpu.waiting = false → s.cpu.haltBug = false → s.cpu.eiPending = true →
    s.read8 s.cpu.pc = 0x00 →
    ∃ t u, step s = .next t ∧ t.cpu.eiPending = false ∧
      u = State.tick 4 (s.setCpu { s.cpu with pc := s.cpu.pc + 1, ime := true, eiPending := false }) ∧
      (u.irq.pending = false → t = u.cost 0) ∧
      (u.irq.pending = true → t = State.tick 20 (u.cost 0).service)) ∧
  (∀ s : State, s.cpu.frozen = false → s.cpu.waiting = false → s.cpu.haltBug = false →
    s.read8 s.cpu.pc = 0xF3 →
    ∃ t, step s = .next t ∧ t.cpu = { s.cpu with ime := false, eiPending := false, pc := s.cpu.pc + 1 })

/-- LD r,r' copies a register and LD r,n loads the immediate; every other register, every flag and all other state
stay; the costs are 1 and 2. (40_load8.md rules R130, R131, R141.) -/
def Obligations.LoadRegisterResult : Prop :=
  ∀ (dst src r : Reg8) (n : Byte) (s : State),
    exec (.ldRegReg dst src) s = .next { s with cpu := s.cpu.setReg dst (s.cpu.reg src), cycles := 1 } ∧
    exec (.ldRegImm dst n) s = .next { s with cpu := s.cpu.setReg dst n, cycles := 2 } ∧
    (s.cpu.setReg dst n).reg r = if r = dst then n else s.cpu.reg r

/-- LD r,(HL), LD A,(BC), LD A,(DE), LD A,(nn), LDH A,(n), LDH A,(C), LD A,(HL+) and LD A,(HL-) load the byte that the
bus reads at their address; the last two also step HL by 1 modulo 2^16; nothing else changes but the cost. The address
of LDH is 0xFF00 plus the unsigned byte. (40_load8.md rules R132, R135, R136, R139, R142, R144, R148, R149.) -/
def Obligations.LoadFromMemoryResult : Prop :=
  ∀ (r : Reg8) (nn : Word) (n : Byte) (s : State),
    exec (.ldRegMem r) s = .next { s with cpu := s.cpu.setReg r (s.read8 (s.cpu.h ++ s.cpu.l)), cycles := 2 } ∧
    exec .ldAMemBC s = .next { s with cpu := { s.cpu with a := s.read8 (s.cpu.b ++ s.cpu.c) }, cycles := 2 } ∧
    exec .ldAMemDE s = .next { s with cpu := { s.cpu with a := s.read8 (s.cpu.d ++ s.cpu.e) }, cycles := 2 } ∧
    exec (.ldAMemImm16 nn) s = .next { s with cpu := { s.cpu with a := s.read8 nn }, cycles := 4 } ∧
    exec (.ldhAMemImm8 n) s =
      .next { s with cpu := { s.cpu with a := s.read8 (0xFF00 + n.setWidth 16) }, cycles := 3 } ∧
    exec .ldhAMemC s =
      .next { s with cpu := { s.cpu with a := s.read8 (0xFF00 + s.cpu.c.setWidth 16) }, cycles := 2 } ∧
    exec .ldAMemHLInc s = .next { s with
      cpu := Cpu.setHL { s.cpu with a := s.read8 (s.cpu.h ++ s.cpu.l) } (s.cpu.h ++ s.cpu.l + 1), cycles := 2 } ∧
    exec .ldAMemHLDec s = .next { s with
      cpu := Cpu.setHL { s.cpu with a := s.read8 (s.cpu.h ++ s.cpu.l) } (s.cpu.h ++ s.cpu.l - 1), cycles := 2 }

/-- LD (HL),r, LD (HL),n, LD (BC),A, LD (DE),A, LD (nn),A, LDH (n),A, LDH (C),A, LD (HL+),A and LD (HL-),A write their
byte through the bus at their address and change no flag and no register, but that the last two step HL by 1 modulo
2^16. What the bus write itself changes is stated in StoreFrame. (40_load8.md rules R133, R134, R137, R138, R140,
R141, R143, R145, R146, R147.) -/
def Obligations.StoreResult : Prop :=
  ∀ (r : Reg8) (nn : Word) (n : Byte) (s : State),
    exec (.ldMemReg r) s = .next { s.write8 (s.cpu.h ++ s.cpu.l) (s.cpu.reg r) with cycles := 2 } ∧
    exec (.ldMemHLImm8 n) s = .next { s.write8 (s.cpu.h ++ s.cpu.l) n with cycles := 3 } ∧
    exec .ldMemBCA s = .next { s.write8 (s.cpu.b ++ s.cpu.c) s.cpu.a with cycles := 2 } ∧
    exec .ldMemDEA s = .next { s.write8 (s.cpu.d ++ s.cpu.e) s.cpu.a with cycles := 2 } ∧
    exec (.ldMemImm16A nn) s = .next { s.write8 nn s.cpu.a with cycles := 4 } ∧
    exec (.ldhMemImm8A n) s = .next { s.write8 (0xFF00 + n.setWidth 16) s.cpu.a with cycles := 3 } ∧
    exec .ldhMemCA s = .next { s.write8 (0xFF00 + s.cpu.c.setWidth 16) s.cpu.a with cycles := 2 } ∧
    exec .ldMemHLIncA s = .next { s.write8 (s.cpu.h ++ s.cpu.l) s.cpu.a with
      cpu := s.cpu.setHL (s.cpu.h ++ s.cpu.l + 1), cycles := 2 } ∧
    exec .ldMemHLDecA s = .next { s.write8 (s.cpu.h ++ s.cpu.l) s.cpu.a with
      cpu := s.cpu.setHL (s.cpu.h ++ s.cpu.l - 1), cycles := 2 }

/-- LD rr,nn writes both halves of the pair; LD SP,HL copies HL; LD HL,SP+e adds the sign-extended byte and sets ZF =
NF = 0, HF and CF from the unsigned addition of the byte to the low byte of SP; LD (nn),SP stores the low byte at nn
and then the high byte at nn + 1. Nothing else changes but the cost. (41_load16_stack.md rules R161, R162, R163, R164;
10_state.md rule R21.) -/
def Obligations.Load16Result : Prop :=
  ∀ (p : Reg16) (nn : Word) (e : Byte) (s : State),
    exec (.ldPairImm p nn) s = .next { s with cpu := s.cpu.setPair p nn, cycles := 3 } ∧
    (s.cpu.setPair p nn).pair p = nn ∧
    exec .ldSPHL s = .next { s with cpu := { s.cpu with sp := s.cpu.h ++ s.cpu.l }, cycles := 2 } ∧
    exec (.ldHLSPRel e) s = .next { s with
      cpu := Cpu.setHL { s.cpu with
        zf := false, nf := false
        hf := decide (s.cpu.sp.toNat % 16 + e.toNat % 16 > 0xF)
        cf := decide (s.cpu.sp.toNat % 256 + e.toNat > 0xFF) } (s.cpu.sp + e.signExtend 16)
      cycles := 3 } ∧
    exec (.ldMemImm16SP nn) s = .next { (s.write8 nn (lo s.cpu.sp)).write8 (nn + 1) (hi s.cpu.sp) with cycles := 5 }

/-- PUSH writes the high byte at SP - 1 and then the low byte at SP - 2, through the bus, and leaves SP at SP - 2; POP
loads the pair from the bytes at SP (low) and SP + 1 (high) and leaves SP at SP + 2; POP AF takes the four flags from
bits 7 to 4 of the low byte and drops the rest; no other instruction of the family writes a flag. With the stack in
plain RAM a pushed word is what the next pop reads. (41_load16_stack.md rules R160, R165, R166, R167, R168;
10_state.md rule R22.) -/
def Obligations.StackResult : Prop :=
  (∀ (p : StackReg) (s : State),
    exec (.push p) s = .next { (({ s with cpu := { s.cpu with sp := s.cpu.sp - 1 } } : State).write8 (s.cpu.sp - 1)
      (hi (s.cpu.stackPair p))).write8 (s.cpu.sp - 2) (lo (s.cpu.stackPair p)) with
        cpu := { s.cpu with sp := s.cpu.sp - 2 }, cycles := 4 }) ∧
  (∀ (p : StackReg) (s : State),
    exec (.pop p) s = .next { s with
      cpu := Cpu.setStackPair { s.cpu with sp := s.cpu.sp + 2 } p (s.read8 (s.cpu.sp + 1) ++ s.read8 s.cpu.sp)
      cycles := 3 }) ∧
  (∀ (c : Cpu) (v : Word), c.setStackPair .af v = { c with
      a := hi v, zf := v.getLsbD 7, nf := v.getLsbD 6, hf := v.getLsbD 5, cf := v.getLsbD 4 } ∧
    (c.setStackPair .bc v).bc = v ∧ (c.setStackPair .de v).de = v ∧ (c.setStackPair .hl v).hl = v) ∧
  (∀ (s : State) (v : Word), plainRam (s.cpu.sp - 1) = true → plainRam (s.cpu.sp - 2) = true →
    (s.push16 v).top16 = v)

/-- ADD A,v and ADC A,v, in the register, (HL) and immediate form, write the sum modulo 2^8 to A, ZF for a zero
result, NF = 0, HF the carry out of bit 3, CF the carry out of bit 7, the incoming carry counted by ADC in both;
nothing else changes but the cost. (42_alu8.md rules R175, R176, R177, R192.) -/
def Obligations.AddResult : Prop :=
  ∀ (o : Opd8) (n : Byte) (s : State),
    let a := s.cpu.a.toNat
    let c := s.cpu.cf.toNat
    let sum := fun (v k m : Nat) => accResult s (BitVec.ofNat 8 (a + v + k)) (decide ((a + v + k) % 256 = 0)) false
      (decide (a % 16 + v % 16 + k > 0xF)) (decide (a + v + k > 0xFF)) m
    exec (.aluOpd .add o) s = .next (sum (s.readOpd o).toNat 0 (operandCost o 1 2)) ∧
    exec (.aluImm .add n) s = .next (sum n.toNat 0 2) ∧
    exec (.aluOpd .adc o) s = .next (sum (s.readOpd o).toNat c (operandCost o 1 2)) ∧
    exec (.aluImm .adc n) s = .next (sum n.toNat c 2)

/-- SUB v and SBC A,v write the difference modulo 2^8 to A, ZF for a zero result, NF = 1, HF and CF the borrows of the
low nibble and of the byte, SBC with the incoming carry as an extra borrow; CP v sets exactly the flags of SUB v and
leaves A. All three forms; nothing else changes but the cost. (42_alu8.md rules R175, R178, R179, R183, R192.) -/
def Obligations.SubtractResult : Prop :=
  ∀ (o : Opd8) (n : Byte) (s : State),
    let a := s.cpu.a.toNat
    let c := s.cpu.cf.toNat
    let diff := fun (r : Byte) (v k m : Nat) => accResult s r (decide ((a + 512 - v - k) % 256 = 0)) true
      (decide (a % 16 < v % 16 + k)) (decide (a < v + k)) m
    let sub := fun (v k m : Nat) => diff (BitVec.ofNat 8 (a + 512 - v - k)) v k m
    exec (.aluOpd .sub o) s = .next (sub (s.readOpd o).toNat 0 (operandCost o 1 2)) ∧
    exec (.aluImm .sub n) s = .next (sub n.toNat 0 2) ∧
    exec (.aluOpd .sbc o) s = .next (sub (s.readOpd o).toNat c (operandCost o 1 2)) ∧
    exec (.aluImm .sbc n) s = .next (sub n.toNat c 2) ∧
    exec (.aluOpd .cp o) s = .next (diff s.cpu.a (s.readOpd o).toNat 0 (operandCost o 1 2)) ∧
    exec (.aluImm .cp n) s = .next (diff s.cpu.a n.toNat 0 2)

/-- AND, XOR and OR, in all three forms, write the bitwise result to A and ZF for a zero result; AND sets HF and
clears NF and CF; XOR and OR clear NF, HF and CF; nothing else changes but the cost. (42_alu8.md rules R175, R180,
R181, R182.) -/
def Obligations.LogicResult : Prop :=
  ∀ (o : Opd8) (n : Byte) (s : State),
    let logic := fun (r : Byte) (h : Bool) (m : Nat) => accResult s r (decide (r = 0)) false h false m
    exec (.aluOpd .and o) s = .next (logic (s.cpu.a &&& s.readOpd o) true (operandCost o 1 2)) ∧
    exec (.aluImm .and n) s = .next (logic (s.cpu.a &&& n) true 2) ∧
    exec (.aluOpd .xor o) s = .next (logic (s.cpu.a ^^^ s.readOpd o) false (operandCost o 1 2)) ∧
    exec (.aluImm .xor n) s = .next (logic (s.cpu.a ^^^ n) false 2) ∧
    exec (.aluOpd .or o) s = .next (logic (s.cpu.a ||| s.readOpd o) false (operandCost o 1 2)) ∧
    exec (.aluImm .or n) s = .next (logic (s.cpu.a ||| n) false 2)

/-- INC r, INC (HL), DEC r and DEC (HL) write the operand plus or minus 1 modulo 2^8 back (to memory through the bus),
ZF for a zero result, NF 0 for INC and 1 for DEC, HF when the low nibble wraps, CF unchanged; the flags of the (HL)
forms come from the byte read; nothing else changes but the cost. (42_alu8.md rules R184, R185, R186, R187.) -/
def Obligations.IncDecResult : Prop :=
  ∀ (o : Opd8) (s : State),
    let v := s.readOpd o
    exec (.inc8 o) s = .next (flagsResult (s.writeOpd o (BitVec.ofNat 8 (v.toNat + 1))) (decide (v = 0xFF)) false
      (decide (v.toNat % 16 = 0xF)) s.cpu.cf (operandCost o 1 3)) ∧
    exec (.dec8 o) s = .next (flagsResult (s.writeOpd o (BitVec.ofNat 8 (v.toNat + 255))) (decide (v = 0x01)) true
      (decide (v.toNat % 16 = 0)) s.cpu.cf (operandCost o 1 3))

/-- DAA adjusts A by the rule of R188: after an addition 0x60 is added when CF or A > 0x99 (and CF set), 0x06 when HF
or the low nibble is above 9; after a subtraction 0x60 and 0x06 are subtracted by CF and HF; ZF by the result, HF = 0,
NF kept, CF else kept. CPL complements A and sets NF and HF. SCF sets CF, CCF complements it, both clear NF and HF and
keep ZF. (42_alu8.md rules R188, R189, R190, R191.) -/
def Obligations.DaaResult : Prop :=
  ∀ s : State,
    let a := s.cpu.a.toNat
    let up := (if s.cpu.cf = true ∨ a > 0x99 then 0x60 else 0) + (if s.cpu.hf = true ∨ a % 16 > 9 then 0x06 else 0)
    let down := (if s.cpu.cf = true then 0x60 else 0) + (if s.cpu.hf = true then 0x06 else 0)
    (s.cpu.nf = false → exec .daa s = .next (accResult s (BitVec.ofNat 8 (a + up)) (decide ((a + up) % 256 = 0)) false
      false (s.cpu.cf || decide (a > 0x99)) 1)) ∧
    (s.cpu.nf = true → exec .daa s = .next (accResult s (BitVec.ofNat 8 (a + 256 - down))
      (decide ((a + 256 - down) % 256 = 0)) true false s.cpu.cf 1)) ∧
    exec .cpl s = .next (accResult s (BitVec.ofNat 8 (255 - a)) s.cpu.zf true true s.cpu.cf 1) ∧
    exec .scf s = .next (flagsResult s s.cpu.zf false false true 1) ∧
    exec .ccf s = .next (flagsResult s s.cpu.zf false false (!s.cpu.cf) 1)

/-- For any two numbers below 100 in packed decimal and any incoming carry: ADC then DAA leaves the decimal sum modulo
100 in A with CF telling whether the sum reached 100, and SBC then DAA leaves the decimal difference modulo 100 with
CF telling whether a borrow was needed. (42_alu8.md rules R177, R179, R188.) -/
def Obligations.BcdArithmetic : Prop :=
  ∀ (x y : Nat) (s : State), x < 100 → y < 100 → s.cpu.a = bcd x →
    (∃ t u, exec (.aluImm .adc (bcd y)) s = .next t ∧ exec .daa t = .next u ∧
      u.cpu.a = bcd ((x + y + s.cpu.cf.toNat) % 100) ∧ u.cpu.cf = decide (100 ≤ x + y + s.cpu.cf.toNat)) ∧
    (∃ t u, exec (.aluImm .sbc (bcd y)) s = .next t ∧ exec .daa t = .next u ∧
      u.cpu.a = bcd ((x + 100 - y - s.cpu.cf.toNat) % 100) ∧ u.cpu.cf = decide (x < y + s.cpu.cf.toNat))

/-- ADD HL,rr writes the sum modulo 2^16 to HL, keeps ZF, clears NF, HF the carry out of bit 11, CF the carry out of
bit 15; INC rr and DEC rr step the pair modulo 2^16 and write no flag; ADD SP,e adds the sign-extended byte to SP with
ZF = NF = 0 and HF, CF the carries of the unsigned addition to the low byte. Nothing else changes but the cost.
(43_alu16.md rules R211, R212, R213, R214, R215.) -/
def Obligations.Arith16Result : Prop :=
  ∀ (p : Reg16) (e : Byte) (s : State),
    let x := s.cpu.hl.toNat
    let v := (s.cpu.pair p).toNat
    exec (.addHLPair p) s = .next { s with
      cpu := Cpu.setHL { s.cpu with
        nf := false, hf := decide (x % 4096 + v % 4096 > 0xFFF), cf := decide (x + v > 0xFFFF) }
        (BitVec.ofNat 16 (x + v))
      cycles := 2 } ∧
    exec (.incPair p) s = .next { s with cpu := s.cpu.setPair p (BitVec.ofNat 16 (v + 1)), cycles := 2 } ∧
    exec (.decPair p) s = .next { s with cpu := s.cpu.setPair p (BitVec.ofNat 16 (v + 65535)), cycles := 2 } ∧
    exec (.addSPRel e) s = .next { s with
      cpu := { s.cpu with
        sp := s.cpu.sp + e.signExtend 16, zf := false, nf := false
        hf := decide (s.cpu.sp.toNat % 16 + e.toNat % 16 > 0xF)
        cf := decide (s.cpu.sp.toNat % 256 + e.toNat > 0xFF) }
      cycles := 4 }

/-- RLCA, RRCA, RLA and RRA rotate A by one bit, through the carry for the last two, put the bit shifted out into CF
and clear ZF, NF and HF whatever the result. RLC, RRC, RL, RR, SLA, SRA, SWAP and SRL, on a register or on the byte at
HL, write the result back (to memory through the bus), ZF for a zero result, NF = HF = 0, CF the bit shifted out, 0
for SWAP; nothing else changes but the cost. (44_rotate_shift_bit.md rules R220 to R232.) -/
def Obligations.RotateResult : Prop :=
  ∀ (o : Opd8) (s : State),
    let a := s.cpu.a.toNat
    let v := (s.readOpd o).toNat
    let c := s.cpu.cf.toNat
    let put := fun (r k : Nat) => flagsResult (s.writeOpd o (BitVec.ofNat 8 r)) (decide (r % 256 = 0)) false false
      (decide (k = 1)) (operandCost o 2 4)
    let acc := fun (r k : Nat) => accResult s (BitVec.ofNat 8 r) false false false (decide (k = 1)) 1
    exec .rlca s = .next (acc (2 * a + a / 128) (a / 128)) ∧
    exec .rrca s = .next (acc (a / 2 + 128 * (a % 2)) (a % 2)) ∧
    exec .rla s = .next (acc (2 * a + c) (a / 128)) ∧
    exec .rra s = .next (acc (a / 2 + 128 * c) (a % 2)) ∧
    exec (.rot .rlc o) s = .next (put (2 * v + v / 128) (v / 128)) ∧
    exec (.rot .rrc o) s = .next (put (v / 2 + 128 * (v % 2)) (v % 2)) ∧
    exec (.rot .rl o) s = .next (put (2 * v + c) (v / 128)) ∧
    exec (.rot .rr o) s = .next (put (v / 2 + 128 * c) (v % 2)) ∧
    exec (.rot .sla o) s = .next (put (2 * v) (v / 128)) ∧
    exec (.rot .sra o) s = .next (put (v / 2 + 128 * (v / 128)) (v % 2)) ∧
    exec (.rot .swap o) s = .next (put (v % 16 * 16 + v / 16) 0) ∧
    exec (.rot .srl o) s = .next (put (v / 2) (v % 2))

/-- BIT y sets ZF when bit y of the operand is 0, NF = 0, HF = 1, keeps CF and writes nothing back; RES y and SET y
write the operand with bit y cleared or set back (to memory through the bus) and change no flag; each in the register
and in the (HL) form, with its cost. (44_rotate_shift_bit.md rules R220, R233, R234, R235.) -/
def Obligations.BitResult : Prop :=
  ∀ (y : Fin 8) (o : Opd8) (s : State), ∃ r q : Byte,
    (∀ j, r.getLsbD j = ((s.readOpd o).getLsbD j && decide (j ≠ y.val))) ∧
    (∀ j, q.getLsbD j = ((s.readOpd o).getLsbD j || decide (j = y.val))) ∧
    exec (.bit y o) s = .next (flagsResult s (!(s.readOpd o).getLsbD y.val) false true s.cpu.cf (operandCost o 2 3)) ∧
    exec (.res y o) s = .next { s.writeOpd o r with cycles := operandCost o 2 4 } ∧
    exec (.set y o) s = .next { s.writeOpd o q with cycles := operandCost o 2 4 }

/-- JP nn and JP HL set PC; JR e adds the sign-extended byte to PC; the conditional forms do so, at the taken cost,
exactly when the condition holds (NZ, Z on ZF; NC, C on CF), and otherwise change nothing but the (smaller) cost; no
flag and no other register changes. (45_control_flow.md rules R250, R251, R252, R253, R254, R255;
70_reset_and_hazards.md rule R620.) -/
def Obligations.JumpResult : Prop :=
  ∀ (k : Cond) (nn : Word) (e : Byte) (s : State),
    let yes := match k with
      | .nz => s.cpu.zf = false
      | .z => s.cpu.zf = true
      | .nc => s.cpu.cf = false
      | .c => s.cpu.cf = true
    exec (.jpImm16 nn) s = .next (pcResult s nn 4) ∧
    exec .jpHL s = .next (pcResult s (s.cpu.h ++ s.cpu.l) 1) ∧
    exec (.jrRel e) s = .next (pcResult s (s.cpu.pc + e.signExtend 16) 3) ∧
    (yes → exec (.jpCond k nn) s = .next (pcResult s nn 4) ∧
      exec (.jrCond k e) s = .next (pcResult s (s.cpu.pc + e.signExtend 16) 3)) ∧
    (¬ yes → exec (.jpCond k nn) s = .next { s with cycles := 3 } ∧
      exec (.jrCond k e) s = .next { s with cycles := 2 })

/-- CALL nn and RST t push PC (the address after the instruction), high byte first, through the bus, and set PC to the
target, 8y for RST; CALL cc does so exactly when the condition holds and otherwise accesses no stack; no flag and no
register but SP and PC changes. (45_control_flow.md rules R250, R256, R257, R262; 00_scope.md rule R13.) -/
def Obligations.CallResult : Prop :=
  ∀ (k : Cond) (nn : Word) (y : Fin 8) (s : State),
    let yes := match k with
      | .nz => s.cpu.zf = false
      | .z => s.cpu.zf = true
      | .nc => s.cpu.cf = false
      | .c => s.cpu.cf = true
    let call := fun (a : Word) (m : Nat) =>
      ({ (({ s with cpu := { s.cpu with sp := s.cpu.sp - 1 } } : State).write8 (s.cpu.sp - 1)
        (hi s.cpu.pc)).write8 (s.cpu.sp - 2) (lo s.cpu.pc) with
          cpu := { s.cpu with sp := s.cpu.sp - 2, pc := a }, cycles := m } : State)
    exec (.callImm16 nn) s = .next (call nn 6) ∧
    exec (.rst y) s = .next (call (BitVec.ofNat 16 (8 * y.val)) 4) ∧
    (yes → exec (.callCond k nn) s = .next (call nn 6)) ∧
    (¬ yes → exec (.callCond k nn) s = .next { s with cycles := 3 })

/-- RET sets PC to the word whose low byte stands at SP and whose high byte stands at SP + 1, and SP to SP + 2; RET cc
does so exactly when the condition holds; RETI does it and sets IME to 1 at once, leaving ei_pending; no flag and no
other register changes, and no memory. (45_control_flow.md rules R250, R258, R259, R260; 60_exceptions.md rule R316.)
-/
def Obligations.ReturnResult : Prop :=
  ∀ (k : Cond) (s : State),
    let yes := match k with
      | .nz => s.cpu.zf = false
      | .z => s.cpu.zf = true
      | .nc => s.cpu.cf = false
      | .c => s.cpu.cf = true
    let ret := fun (ime : Bool) (m : Nat) =>
      ({ s with
        cpu := { s.cpu with pc := s.read8 (s.cpu.sp + 1) ++ s.read8 s.cpu.sp, sp := s.cpu.sp + 2, ime := ime }
        cycles := m } : State)
    exec .ret s = .next (ret s.cpu.ime 4) ∧ exec .reti s = .next (ret true 4) ∧
    (yes → exec (.retCond k) s = .next (ret s.cpu.ime 5)) ∧
    (¬ yes → exec (.retCond k) s = .next { s with cycles := 2 })

/-- NOP changes nothing; DI clears IME and ei_pending; EI sets ei_pending; HALT and STOP set halt_bug when IME is 0
and an enabled interrupt is requested, else halted and stopped; each costs 1. The prefix CB fetches a second byte and
does what the instruction of the CB map with that byte does. (46_system_control.md rules R271, R272, R273, R274, R275,
R276.) -/
def Obligations.SystemResult : Prop :=
  ∀ s : State,
    exec .nop s = .next { s with cycles := 1 } ∧
    exec .di s = .next { s with cpu := { s.cpu with ime := false, eiPending := false }, cycles := 1 } ∧
    exec .ei s = .next { s with cpu := { s.cpu with eiPending := true }, cycles := 1 } ∧
    (s.cpu.ime = false ∧ s.irq.ie &&& s.irq.iflag ≠ 0 →
      exec .halt s = .next { s with cpu := { s.cpu with haltBug := true }, cycles := 1 } ∧
      exec .stop s = .next { s with cpu := { s.cpu with haltBug := true }, cycles := 1 }) ∧
    (s.cpu.ime = true ∨ s.irq.ie &&& s.irq.iflag = 0 →
      exec .halt s = .next { s with cpu := { s.cpu with halted := true }, cycles := 1 } ∧
      exec .stop s = .next { s with cpu := { s.cpu with stopped := true }, cycles := 1 }) ∧
    ∃ t, exec .prefixCB s = .next t ∧ exec (decodeCB (s.read8 s.cpu.pc)) (s.setCpu s.cpu.afterFetch) = .next t

/-- A bus write never changes a CPU register or the recorded cost, nor ROM or the other constants of the cartridge.
The joypad registers change only by FF00, serial by FF01 and FF02, the timer by FF04 to FF07, the PPU by FF40 to FF4B,
the APU by FF04 and FF10 to FF26, the cartridge by 0000-7FFF and A000-BFFF, IE and IF by FF00, FF0F, FF40, FF41, FF45
and FFFF. Every byte of the machine's own RAMs other than the one the address names stays, for every address but FF46,
where only OAM can change. (20_memory.md rules R62 to R72, R75, R79; 10_state.md rule R34; 63_cartridge_mbc.md rule
R520.) -/
def Obligations.StoreFrame : Prop :=
  ∀ (s : State) (a : Word) (v : Byte),
    let t := s.write8 a v
    t.cpu = s.cpu ∧ t.cycles = s.cycles ∧ t.cart.rom = s.cart.rom ∧ t.cart.kind = s.cart.kind ∧
    t.cart.romBanks = s.cart.romBanks ∧ t.cart.ramSize = s.cart.ramSize ∧
    t.cart.hasBattery = s.cart.hasBattery ∧ t.cart.hasRtc = s.cart.hasRtc ∧
    (a ≠ 0xFF00 → t.joypad = s.joypad) ∧
    (a ≠ 0xFF01 → a ≠ 0xFF02 → t.serial = s.serial) ∧
    (a.toNat < 0xFF04 ∨ 0xFF07 < a.toNat → t.timer = s.timer) ∧
    (a.toNat < 0xFF40 ∨ 0xFF4B < a.toNat → t.ppu = s.ppu) ∧
    (a ≠ 0xFF04 → a.toNat < 0xFF10 ∨ 0xFF26 < a.toNat → t.apu = s.apu) ∧
    (0x8000 ≤ a.toNat → a.toNat < 0xA000 ∨ 0xC000 ≤ a.toNat → t.cart = s.cart) ∧
    (a ≠ 0xFF00 → a ≠ 0xFF0F → a ≠ 0xFF40 → a ≠ 0xFF41 → a ≠ 0xFF45 → a ≠ 0xFFFF → t.irq = s.irq) ∧
    (a ≠ 0xFF46 → ∀ b, b ≠ cellOf a → Memory.read t.mem b = Memory.read s.mem b) ∧
    (a = 0xFF46 → ∀ b, b < 0xFE00 ∨ 0xFEA0 ≤ b → Memory.read t.mem b = Memory.read s.mem b)

/-- After a write to WRAM, its echo, HRAM or wave RAM, to VRAM or OAM while they are not locked, a read of the same
address gives the value written, and a read of any address of WRAM, echo, HRAM, VRAM or OAM that names another byte
gives what it gave before. (The RAM window of the cartridge is in Mbc1Banking and Mbc23Banking.) (20_memory.md rules
R64, R66, R67, R68, R71, R80; 62_apu.md rule R470.) -/
def Obligations.StoreReadsBack : Prop :=
  ∀ (s : State) (a : Word) (v : Byte),
    plainRam a = true ∨ (0xFF30 ≤ a.toNat ∧ a.toNat ≤ 0xFF3F) ∨ (regionOf a = .vram ∧ s.ppu.vramLocked = false) ∨
      (regionOf a = .oam ∧ s.ppu.oamLocked = false) →
    (s.write8 a v).read8 a = v ∧
    ∀ b : Word, plainRam b = true ∨ regionOf b = .vram ∨ regionOf b = .oam → cellOf b ≠ cellOf a →
      (s.write8 a v).read8 b = s.read8 b

/-- HRAM is 127 bytes at FF80-FFFE, all zero at reset; a write stores and a read returns the stored byte, with no lock
and no effect but on that byte. (R71.) -/
def Obligations.HramReadsBack : Prop :=
  (∀ a : Word, regionOf a = .hram ↔ 0xFF80 ≤ a.toNat ∧ a.toNat ≤ 0xFFFE) ∧
  (∀ a : Word, regionOf a = .hram → State.reset.read8 a = 0) ∧
  (∀ (s : State) (a : Word) (v : Byte), regionOf a = .hram →
    (s.write8 a v).read8 a = v ∧ s.write8 a v = s.setMem (s.write8 a v).mem ∧
    ∀ b : Word, b ≠ a → (s.write8 a v).read8 b = s.read8 b)

/-- With the LCD on, VRAM in mode 3 and OAM in modes 2 and 3 read 0xFF and drop writes; otherwise, and always with the
LCD off, the stored byte is read. Reads of FEA0-FEFF and of the unmapped I/O addresses FF03, FF08-FF0E, FF15, FF1F,
FF27-FF2F, FF4C-FF7F give 0xFF and writes there change nothing. An access in E000-FDFF is the access 8 KiB below.
(20_memory.md rules R64, R67, R68, R69, R70, R73.) -/
def Obligations.LockedAndUnmapped : Prop :=
  (∀ (s : State) (a : Word) (v : Byte),
    (regionOf a = .vram → s.ppu.lcdc.getLsbD 7 = true → s.ppu.mode = .draw → s.read8 a = 0xFF ∧ s.write8 a v = s) ∧
    (regionOf a = .oam → s.ppu.lcdc.getLsbD 7 = true → s.ppu.mode = .oamScan ∨ s.ppu.mode = .draw →
      s.read8 a = 0xFF ∧ s.write8 a v = s) ∧
    (regionOf a = .vram → s.ppu.lcdc.getLsbD 7 = false ∨ s.ppu.mode ≠ .draw →
      s.read8 a = Memory.read s.mem a.toNat) ∧
    (regionOf a = .oam → s.ppu.lcdc.getLsbD 7 = false ∨ s.ppu.mode = .hblank ∨ s.ppu.mode = .vblank →
      s.read8 a = Memory.read s.mem a.toNat)) ∧
  (∀ (s : State) (a : Word) (v : Byte),
    (0xFEA0 ≤ a.toNat ∧ a.toNat ≤ 0xFEFF) ∨ a = 0xFF03 ∨ (0xFF08 ≤ a.toNat ∧ a.toNat ≤ 0xFF0E) ∨ a = 0xFF15 ∨
      a = 0xFF1F ∨ (0xFF27 ≤ a.toNat ∧ a.toNat ≤ 0xFF2F) ∨ (0xFF4C ≤ a.toNat ∧ a.toNat ≤ 0xFF7F) →
    s.read8 a = 0xFF ∧ s.write8 a v = s) ∧
  (∀ (s : State) (a : Word) (v : Byte), 0xE000 ≤ a.toNat → a.toNat ≤ 0xFDFF →
    s.read8 a = s.read8 (a - 0x2000) ∧ s.write8 a v = s.write8 (a - 0x2000) v)

/-- IE reads its five bits below three zeros, IF below three ones; a write stores bits 4 to 0. STAT reads bit 7 as 1,
bits 6 to 3 as stored, bit 2 as LY = LYC, bits 1 to 0 as the mode; a write of LY changes nothing; P1 reads bits 7 and
6 as 1 and the row selection in bits 5 and 4; SC reads bits 6 to 1 as 1; TAC reads bits 7 to 3 as 1; NR52 reads power
and the four enabled flags with bits 6 to 4 as 1. (10_state.md rules R34, R35, R36; 61_ppu.md rules R402, R404;
60_exceptions.md rules R339, R341, R345; 62_apu.md rule R467.) -/
def Obligations.RegisterReads : Prop :=
  ∀ (s : State) (v : Byte),
    (s.read8 0xFFFF).toNat = s.irq.ie.toNat ∧ (s.read8 0xFF0F).toNat = 0xE0 + s.irq.iflag.toNat ∧
    (s.write8 0xFFFF v).irq.ie = v.setWidth 5 ∧ (s.write8 0xFF0F v).irq.iflag = v.setWidth 5 ∧
    (s.read8 0xFF41).toNat = 0x80 + 8 * s.ppu.statSel.toNat + (if s.ppu.ly = s.ppu.lyc then 4 else 0) +
      s.ppu.mode.code.toNat ∧
    s.write8 0xFF44 v = s ∧ s.read8 0xFF44 = s.ppu.ly ∧
    (s.read8 0xFF00).toNat / 16 = 0xC + s.joypad.select.toNat ∧
    (s.read8 0xFF02).toNat = 0x7E + 128 * s.serial.sc7.toNat + s.serial.sc0.toNat ∧
    (s.read8 0xFF07).toNat = 0xF8 + s.timer.tac.toNat ∧
    (s.read8 0xFF26).toNat = 128 * s.apu.power.toNat + 0x70 + 8 * s.apu.ch4.enabled.toNat +
      4 * s.apu.ch3.enabled.toNat + 2 * s.apu.ch2.enabled.toNat + s.apu.ch1.enabled.toNat

/-- A write of v to FF46 stores v in DMA and leaves in OAM byte i, for each i below 160, the byte that a read without
locks gives at the address 256 v + i, with DMA already v; it changes nothing else. (20_memory.md rule R75.) -/
def Obligations.OamDmaCopies : Prop :=
  ∀ (s : State) (v : Byte),
    let t := s.write8 0xFF46 v
    t = { s with ppu := { s.ppu with dma := v }, mem := t.mem } ∧
    (∀ i, i < 160 → Memory.read t.mem (0xFE00 + i) =
      ({ s with ppu := { s.ppu with dma := v } } : State).rawRead (v ++ BitVec.ofNat 8 i)) ∧
    (∀ b, b < 0xFE00 ∨ 0xFEA0 ≤ b → Memory.read t.mem b = Memory.read s.mem b)

/-- After any write to DIV the internal 16-bit counter is 0 and DIV reads 0; TIMA is incremented exactly when the
selected and enabled counter bit was 1 (an increment of 0xFF makes it 0x00 and starts the reload delay); the frame
sequencer is clocked exactly when bit 12 was 1. (60_exceptions.md rules R335, R336; 62_apu.md rule R480.) -/
def Obligations.DivWrite : Prop :=
  ∀ (s : State) (v : Byte),
    let t := s.write8 0xFF04 v
    let k := match (s.timer.tac.toNat % 4) with
      | 0 => 9
      | 1 => 3
      | 2 => 5
      | _ => 7
    let falls := s.timer.tac.getLsbD 2 && s.timer.sysclk.getLsbD k
    t.timer.sysclk = 0 ∧ t.read8 0xFF04 = 0 ∧
    t.timer.tima = (if falls then s.timer.tima + 1 else s.timer.tima) ∧
    t.timer.reload = (if falls = true ∧ s.timer.tima = 0xFF then 4 else s.timer.reload) ∧
    t.apu = if s.timer.sysclk.getLsbD 12 then s.apu.sequencerClock else s.apu

/-- With the timer enabled and no reload under way, after n t-cycles TIMA has advanced by the number of falling edges
of the selected bit (of period 1024, 16, 64 or 256), as long as it does not overflow; the counter has advanced by n;
with the timer disabled TIMA does not move. (60_exceptions.md rules R335, R339, R340.) -/
def Obligations.TimaRate : Prop :=
  ∀ (t : Timer) (n : Nat), t.reload = 0 →
    let period := match (t.tac.toNat % 4) with
      | 0 => 1024
      | 1 => 16
      | 2 => 64
      | _ => 256
    let edges := (t.sysclk.toNat + n) / period - t.sysclk.toNat / period
    (t.tac.getLsbD 2 = true → t.tima.toNat + edges ≤ 255 →
      (Timer.ticks n t).tima.toNat = t.tima.toNat + edges ∧ (Timer.ticks n t).reload = 0) ∧
    (t.tac.getLsbD 2 = false → (Timer.ticks n t).tima = t.tima ∧ (Timer.ticks n t).reload = 0) ∧
    (Timer.ticks n t).sysclk = t.sysclk + BitVec.ofNat 16 n

/-- When TIMA is 0xFF, no reload is under way and the enabled timer signal falls in the next t-cycle, then after 1 to
4 t-cycles TIMA reads 0x00 and IF bit 2 is what it was, and after 5 t-cycles TIMA is TMA and IF bit 2 is 1. A write of
TIMA during the delay cancels the reload. (60_exceptions.md rules R337, R338, R340.) -/
def Obligations.TimaOverflow : Prop :=
  (∀ s : State, s.timer.tima = 0xFF → s.timer.reload = 0 → s.timer.signal = true →
    Timer.signal { s.timer with sysclk := s.timer.sysclk + 1 } = false →
    (∀ n, 1 ≤ n → n ≤ 4 → (State.tick n s).timer.tima = 0 ∧ (State.tick n s).timer.reload = 5 - n ∧
      (State.tick n s).irq.iflag.getLsbD 2 = s.irq.iflag.getLsbD 2) ∧
    (State.tick 5 s).timer.tima = s.timer.tma ∧ (State.tick 5 s).irq.iflag.getLsbD 2 = true) ∧
  (∀ (s : State) (v : Byte), (s.write8 0xFF05 v).timer = { s.timer with tima := v, reload := 0 })

/-- Bit j of the low nibble of P1 is 0 exactly when a selected row (P1 bit 4 = 0 for the directions, bit 5 = 0 for the
actions) has its button j held. A write of P1 and a change of the buttons request the joypad interrupt exactly when
some output bit goes from 1 (in the nibble remembered) to 0, remember the new nibble and request nothing else. No step
changes the buttons; a run with a sequence of masks, one for each frame boundary, sets the buttons to each mask in
turn (the first before its first frame, log entry 6) and runs a frame from there, so that the buttons are that mask
when the frame ends. (60_exceptions.md rules R304, R341, R342, R343, R344; 00_scope.md rule R9; log entries 6 and 17
(a mask before the first frame; the bound on the steps of a frame).) -/
def Obligations.JoypadMatrix : Prop :=
  (∀ (s : State) (j : Nat), j < 4 → (s.read8 0xFF00).getLsbD j =
    !((!s.joypad.select.getLsbD 0 && s.joypad.buttons.getLsbD (4 + j)) ||
      (!s.joypad.select.getLsbD 1 && s.joypad.buttons.getLsbD j))) ∧
  (∀ (s : State) (v : Byte), ∀ t ∈ [s.write8 0xFF00 v, s.setButtons v],
    (∀ j, j < 4 → t.joypad.prev.getLsbD j = (t.read8 0xFF00).getLsbD j) ∧
    (∀ j, j ≠ 4 → t.irq.iflag.getLsbD j = s.irq.iflag.getLsbD j) ∧
    (t.irq.iflag.getLsbD 4 = true ↔ s.irq.iflag.getLsbD 4 = true ∨
      ∃ j, j < 4 ∧ s.joypad.prev.getLsbD j = true ∧ t.joypad.prev.getLsbD j = false)) ∧
  (∀ (s : State) (v : Byte), (s.write8 0xFF00 v).joypad.select = v.extractLsb' 4 2 ∧
    (s.setButtons v).joypad.buttons = v) ∧
  (∀ s t : State, step s = .next t → t.joypad.buttons = s.joypad.buttons) ∧
  (∀ (bound : Nat) (s : State), s.play bound [] = .next []) ∧
  (∀ (bound : Nat) (mask : Byte) (masks : List Byte) (s : State), ∃ (f : Frame) (fs : List Frame),
    s.play bound (mask :: masks) = .next (f :: fs) ∧ (s.setButtons mask).stepFrame bound = .next f ∧
    f.state.play bound masks = .next fs ∧ f.state.joypad.buttons = mask)

/-- With the LCD on, after n t-cycles from line LY and dot the PPU stands at the position (456 LY + dot + n) modulo
70224 of the frame, whatever stands in VRAM and OAM; every 70224 t-cycles contain exactly one VBlank request, at the
entry to line 144. (61_ppu.md rules R410, R411, R412; 60_exceptions.md rule R312.) -/
def Obligations.FramePeriod : Prop :=
  ∀ (p : Ppu) (m : List Host.Cell), p.lcdOn = true → p.ly.toNat ≤ 153 → p.dot < 456 →
    (∀ n, 456 * (Ppu.ticks m n p).ly.toNat + (Ppu.ticks m n p).dot = (456 * p.ly.toNat + p.dot + n) % 70224) ∧
    Ppu.vblanks m 70224 p = 1 ∧
    ((p.tick1 m).2.getLsbD 0 = true ↔ p.ly = 143 ∧ p.dot = 455)

/-- With the LCD on, a tick requests the STAT interrupt exactly when the OR of the enabled sources (LY = LYC, modes 2,
1, 0) is 1 after it and was 0 in the remembered bit, and remembers the new value: while one source holds the line, no
other requests. The same holds of the writes of LCDC, STAT and LYC. With the LCD off the line is 0 and a tick does
nothing. (61_ppu.md rules R402, R405, R411, R413.) -/
def Obligations.StatLineBlocks : Prop :=
  (∀ p : Ppu, p.statLine = (p.lcdc.getLsbD 7 && ((p.statSel.getLsbD 3 && decide (p.ly = p.lyc)) ||
    (p.statSel.getLsbD 2 && decide (p.mode = .oamScan)) || (p.statSel.getLsbD 1 && decide (p.mode = .vblank)) ||
    (p.statSel.getLsbD 0 && decide (p.mode = .hblank))))) ∧
  (∀ (p : Ppu) (m : List Host.Cell) (v : Byte),
    ∀ r ∈ [p.writeLcdc v, p.writeStat v, p.writeLyc v] ++ (if p.lcdOn then [p.tick1 m] else []),
      r.2.getLsbD 1 = (r.1.statLine && !p.statPrev) ∧ r.1.statPrev = r.1.statLine) ∧
  (∀ (p : Ppu) (m : List Host.Cell), p.lcdOn = false → p.statLine = false ∧ p.tick1 m = (p, 0))

/-- After the scan the list holds at most ten sprites, in ascending order, each with the line in its range of 8 or 16
rows; and a sprite on the line that is not in the list comes after ten that are. (61_ppu.md rules R415, R420.) -/
def Obligations.OamScanSelects : Prop :=
  ∀ (p : Ppu) (m : List Host.Cell),
    let h := if p.lcdc.getLsbD 2 then 16 else 8
    let on := fun i : Fin 40 => (Memory.read m (0xFE00 + 4 * i.val)).toNat ≤ p.ly.toNat + 16 ∧
      p.ly.toNat + 16 < (Memory.read m (0xFE00 + 4 * i.val)).toNat + h
    let l := (p.oamScan m).lineSprites
    l.length ≤ 10 ∧ l.Pairwise (fun i j => i.val < j.val) ∧ (∀ i ∈ l, on i) ∧
    (∀ i, on i → i ∉ l → l.length = 10 ∧ ∀ j ∈ l, j.val < i.val)

/-- With sprites enabled and the scanned list in ascending order: where the sprite layer shows nothing, no listed
sprite has a coloured pixel in the column; where it shows a pixel, it is that of a listed sprite with a coloured pixel
there, and every other such sprite has a greater X, or an equal X and a greater index. (61_ppu.md rule R428.) -/
def Obligations.SpritePriority : Prop :=
  ∀ (p : Ppu) (m : List Host.Cell) (x : Nat), p.lcdc.getLsbD 1 = true →
    p.lineSprites.Pairwise (fun i j => i.val < j.val) →
    (p.spritePixel m x = none → ∀ i ∈ p.lineSprites, p.spriteColour m x i = 0) ∧
    (∀ b, p.spritePixel m x = some b → ∃ i ∈ p.lineSprites,
      p.spriteColour m x i ≠ 0 ∧ b.colour = p.spriteColour m x i ∧ b.x = oamByte m i 1 ∧ b.attr = oamByte m i 3 ∧
      ∀ j ∈ p.lineSprites, p.spriteColour m x j ≠ 0 →
        (oamByte m i 1).toNat < (oamByte m j 1).toNat ∨
          (oamByte m i 1 = oamByte m j 1 ∧ i.val ≤ j.val))

/-- RenderLine writes row LY and no other row of the framebuffer. With LCDC bit 0 = 0 the plane is white whatever BGP
holds and a sprite pixel always shows; with it 1, a sprite pixel is hidden exactly where its priority bit is 1 and the
colour index of the plane is not 0. The window row counter advances by one exactly when the window is on. (61_ppu.md
rules R425, R427, R429, R430.) -/
def Obligations.LineComposition : Prop :=
  ∀ (p : Ppu) (m : List Host.Cell),
    (∀ (y : Nat) (hy : y < 144), y ≠ p.ly.toNat → (p.renderLine m).framebuffer[y] = p.framebuffer[y]) ∧
    (∀ (hy : p.ly.toNat < 144) (x : Nat) (hx : x < 160),
      ∃ c : BitVec 2, ∃ q : Ppu, q = { p with wyLatch := p.wyLatch || decide (p.ly = p.wy) } ∧
      c = q.planeColour m x ∧
      ((p.renderLine m).framebuffer[p.ly.toNat])[x] =
        match q.spritePixel m x with
        | none => if p.lcdc.getLsbD 0 then paletteShade p.bgp c else 0
        | some b =>
          if p.lcdc.getLsbD 0 = true ∧ b.attr.getLsbD 7 = true ∧ c ≠ 0 then paletteShade p.bgp c
          else paletteShade (if b.attr.getLsbD 4 then p.obp1 else p.obp0) b.colour) ∧
    ((p.renderLine m).winLine = p.winLine + 1 ↔ p.lcdc.getLsbD 0 = true ∧ p.lcdc.getLsbD 5 = true ∧
      (p.wyLatch = true ∨ p.ly = p.wy) ∧ p.wx.toNat ≤ 166)

/-- A write to NR52 with bit 7 = 0 while power is 1 clears power, zeroes every field of the four channels but their
length counters, the sweep unit, NR50 and NR51, and changes nothing else; NR10 to NR51 then read their masks alone and
NR52 reads 0x70. In every state with power 0 a write to any of NR10 to NR51 changes nothing, neither a t-cycle nor a
clock of the frame sequencer changes the APU, both outputs are those of the level 0, and a write to NR52 changes
nothing when bit 7 is 0 and else only sets power and restarts the frame sequencer at step 0. With power 1, a write to
NR52 with bit 7 = 1 changes nothing. (62_apu.md rules R451, R467, R480, R481, R500, R505.) -/
def Obligations.ApuPowerOff : Prop :=
  (∀ (s t : State) (v : Byte), s.apu.power = true → v.getLsbD 7 = false → t = s.write8 0xFF26 v →
    t = { s with apu := { s.apu with
      ch1 := { Square.zero with length := s.apu.ch1.length }
      ch2 := { Square.zero with length := s.apu.ch2.length }
      sweep := Sweep.zero
      ch3 := { Wave.zero with length := s.apu.ch3.length }
      ch4 := { Noise.zero with length := s.apu.ch4.length }
      nr50 := 0
      nr51 := 0
      power := false } } ∧
    (∀ r ∈ ([(0xFF10, 0x80), (0xFF11, 0x3F), (0xFF12, 0x00), (0xFF13, 0xFF), (0xFF14, 0xBF), (0xFF16, 0x3F),
      (0xFF17, 0x00), (0xFF18, 0xFF), (0xFF19, 0xBF), (0xFF1A, 0x7F), (0xFF1B, 0xFF), (0xFF1C, 0x9F)] :
      List (Word × Byte)), t.read8 r.1 = r.2) ∧
    (∀ r ∈ ([(0xFF1D, 0xFF), (0xFF1E, 0xBF), (0xFF20, 0xFF), (0xFF21, 0x00), (0xFF22, 0x00), (0xFF23, 0xBF),
      (0xFF24, 0x00), (0xFF25, 0x00), (0xFF26, 0x70)] : List (Word × Byte)), t.read8 r.1 = r.2)) ∧
  (∀ s : State, s.apu.power = false →
    (∀ (a : Word) (w : Byte), 0xFF10 ≤ a.toNat → a.toNat ≤ 0xFF25 → s.write8 a w = s) ∧
    s.apu.sequencerClock = s.apu ∧ s.tick1.apu = s.apu ∧
    s.apu.audioOut = (Config.normalise 0, Config.normalise 0) ∧
    (∀ v : Byte, s.write8 0xFF26 v =
      if v.getLsbD 7 then { s with apu := { s.apu with power := true, fsStep := 0 } } else s)) ∧
  (∀ (s : State) (v : Byte), s.apu.power = true → v.getLsbD 7 = true → s.write8 0xFF26 v = s)

/-- While power is 1, eight clocks of the frame sequencer bring it back to its step and clock each enabled length
counter four times: the length of a channel with len_enable goes down by 4, not below 0, and the channel is switched
off when its running length reaches 0; without len_enable the length stays. ch2, ch3 and ch4 are switched off by
nothing else, and nor is ch1 while its sweep does not calculate (sweep_enabled = 0 or period 0); no channel is
switched on. ch3 without len_enable stays whole. (62_apu.md rules R481, R482, R484.) -/
def Obligations.FrameSequencer : Prop :=
  ∀ a : Apu, a.power = true →
    let z := Apu.sequencerClocks 8 a
    z.fsStep = a.fsStep ∧ z.power = true ∧
    (a.ch1.lenEnable = true → z.ch1.length = a.ch1.length - 4 ∧
      (0 < a.ch1.length → a.ch1.length ≤ 4 → z.ch1.enabled = false)) ∧
    (a.ch1.lenEnable = false → z.ch1.length = a.ch1.length) ∧
    (a.sweep.enabled = false ∨ a.sweep.period = 0 → z.ch1.enabled =
      (a.ch1.enabled && !(a.ch1.lenEnable && decide (0 < a.ch1.length ∧ a.ch1.length ≤ 4)))) ∧
    (a.ch1.enabled = false → z.ch1.enabled = false) ∧
    (a.ch2.lenEnable = true → z.ch2.length = a.ch2.length - 4 ∧
      z.ch2.enabled = (a.ch2.enabled && !decide (0 < a.ch2.length ∧ a.ch2.length ≤ 4))) ∧
    (a.ch2.lenEnable = false → z.ch2.length = a.ch2.length ∧ z.ch2.enabled = a.ch2.enabled) ∧
    (a.ch3.lenEnable = true → z.ch3.length = a.ch3.length - 4 ∧
      z.ch3.enabled = (a.ch3.enabled && !decide (0 < a.ch3.length ∧ a.ch3.length ≤ 4))) ∧
    (a.ch3.lenEnable = false → z.ch3 = a.ch3) ∧
    (a.ch4.lenEnable = true → z.ch4.length = a.ch4.length - 4 ∧
      z.ch4.enabled = (a.ch4.enabled && !decide (0 < a.ch4.length ∧ a.ch4.length ≤ 4))) ∧
    (a.ch4.lenEnable = false → z.ch4.length = a.ch4.length ∧ z.ch4.enabled = a.ch4.enabled)

/-- With MBC1, a write to 0000-1FFF enables RAM exactly for a low nibble 0xA; 2000-3FFF sets the low five bank bits, 0
becoming 1; 4000-5FFF the upper two; 6000-7FFF the mode. The high window shows bank 32 bank_hi + rom_bank_lo, the low
window bank 32 bank_hi in mode 1 and bank 0 in mode 0, modulo the number of banks. With RAM enabled the RAM window
shows bank bank_hi in mode 1 and bank 0 in mode 0: it reads the byte of CartRAM at 0x2000 times the bank plus the
offset, modulo the RAM size, and a byte written there reads back through every address of that byte and no other; with
RAM disabled, or without RAM, it reads 0xFF and drops writes. (63_cartridge_mbc.md rules R522, R530, R531, R532, R533,
R534, R535.) -/
def Obligations.Mbc1Banking : Prop :=
  ∀ (s : State) (a : Word) (v : Byte), s.cart.kind = .mbc1 →
    let t := s.write8 a v
    (a.toNat < 0x2000 → t = { s with cart := { s.cart with ramEnable := decide (v.toNat % 16 = 0xA) } }) ∧
    (0x2000 ≤ a.toNat → a.toNat < 0x4000 → t = { s with cart := { s.cart with
      romBankLo := if v.toNat % 32 = 0 then 1 else BitVec.ofNat 5 v.toNat } }) ∧
    (0x4000 ≤ a.toNat → a.toNat < 0x6000 → t = { s with cart := { s.cart with bankHi := BitVec.ofNat 2 v.toNat } }) ∧
    (0x6000 ≤ a.toNat → a.toNat < 0x8000 → t = { s with cart := { s.cart with mode := v.getLsbD 0 } }) ∧
    (a.toNat < 0x4000 → s.read8 a = Memory.read s.cart.rom
      ((if s.cart.mode then 32 * s.cart.bankHi.toNat else 0) % s.cart.romBanks * 0x4000 + a.toNat)) ∧
    (0x4000 ≤ a.toNat → a.toNat < 0x8000 → s.read8 a = Memory.read s.cart.rom
      ((32 * s.cart.bankHi.toNat + s.cart.romBankLo.toNat) % s.cart.romBanks * 0x4000 + (a.toNat - 0x4000))) ∧
    (s.cart.ramEnable = true → ShowsRamBank s (if s.cart.mode then s.cart.bankHi.toNat else 0)) ∧
    (s.cart.ramEnable = false → ShowsNoRam s)

/-- Without a controller a write to 0000-7FFF changes nothing, a read there gives the ROM byte, and the RAM window
shows RAM bank 0. With MBC2 address bit 8 decides below 4000 between the 4-bit bank (0 becoming 1) and the RAM enable,
a write to 4000-7FFF changes nothing, the low ROM window shows bank 0 and the high one the bank modulo the number of
banks, and the enabled RAM window reads 0xF above the nibble of its address modulo 512, where the nibble written reads
back. With MBC3 0000-1FFF enables, 2000-3FFF sets the 7-bit bank (0 becoming 1), 4000-5FFF the selector; the ROM
windows are as on MBC2; the enabled RAM window shows the RAM bank of a selector 0 to 3, or the clock register of a
selector 8 to 12 of a cartridge with a clock, where a byte written under its mask reads back; for every other
selector, and with RAM disabled (MBC2 and MBC3), it reads 0xFF and drops writes. (63_cartridge_mbc.md rules R522,
R523, R524, R525; 63_cartridge_mbc.md rules R538, R539, R540; 63_cartridge_mbc.md rules R543, R544, R545, R546, R548.)
-/
def Obligations.Mbc23Banking : Prop :=
  (∀ s : State, s.cart.kind = .noMbc →
    (∀ (a : Word) (v : Byte), a.toNat < 0x8000 → s.write8 a v = s ∧ s.read8 a = Memory.read s.cart.rom a.toNat) ∧
    ShowsRamBank s 0) ∧
  (∀ s : State, s.cart.kind = .mbc2 →
    (∀ (a : Word) (v : Byte), a.toNat < 0x4000 → s.read8 a = Memory.read s.cart.rom a.toNat ∧
      s.write8 a v = if a.getLsbD 8
        then { s with cart := { s.cart with romBank2 := if v.toNat % 16 = 0 then 1 else BitVec.ofNat 4 v.toNat } }
        else { s with cart := { s.cart with ramEnable := decide (v.toNat % 16 = 0xA) } }) ∧
    (∀ (a : Word) (v : Byte), 0x4000 ≤ a.toNat → a.toNat < 0x8000 → s.write8 a v = s ∧
      s.read8 a = Memory.read s.cart.rom
        (s.cart.romBank2.toNat % s.cart.romBanks * 0x4000 + (a.toNat - 0x4000))) ∧
    (s.cart.ramEnable = true → ∀ (a b : Word) (v : Byte),
      0xA000 ≤ a.toNat → a.toNat < 0xC000 → 0xA000 ≤ b.toNat → b.toNat < 0xC000 →
      s.read8 a = BitVec.ofNat 8 (0xF0 + (Memory.read s.cart.ram (a.toNat % 512)).toNat % 16) ∧
      (s.write8 a v).read8 b =
        if b.toNat % 512 = a.toNat % 512 then BitVec.ofNat 8 (0xF0 + v.toNat % 16) else s.read8 b) ∧
    (s.cart.ramEnable = false → ShowsNoRam s)) ∧
  (∀ s : State, s.cart.kind = .mbc3 →
    (∀ (a : Word) (v : Byte), a.toNat < 0x2000 →
      s.write8 a v = { s with cart := { s.cart with ramEnable := decide (v.toNat % 16 = 0xA) } }) ∧
    (∀ (a : Word) (v : Byte), 0x2000 ≤ a.toNat → a.toNat < 0x4000 → s.write8 a v = { s with cart := { s.cart with
      romBank3 := if v.toNat % 128 = 0 then 1 else BitVec.ofNat 7 v.toNat } }) ∧
    (∀ (a : Word) (v : Byte), 0x4000 ≤ a.toNat → a.toNat < 0x6000 →
      s.write8 a v = { s with cart := { s.cart with ramBankOrRtc := BitVec.ofNat 4 v.toNat } }) ∧
    (∀ a : Word, a.toNat < 0x4000 → s.read8 a = Memory.read s.cart.rom a.toNat) ∧
    (∀ a : Word, 0x4000 ≤ a.toNat → a.toNat < 0x8000 → s.read8 a = Memory.read s.cart.rom
      (s.cart.romBank3.toNat % s.cart.romBanks * 0x4000 + (a.toNat - 0x4000))) ∧
    (s.cart.ramEnable = true → s.cart.ramBankOrRtc.toNat ≤ 3 → ShowsRamBank s s.cart.ramBankOrRtc.toNat) ∧
    (s.cart.ramEnable = true → s.cart.hasRtc = true → 8 ≤ s.cart.ramBankOrRtc.toNat →
      s.cart.ramBankOrRtc.toNat ≤ 0xC → ∀ (a b : Word) (v : Byte),
      0xA000 ≤ a.toNat → a.toNat < 0xC000 → 0xA000 ≤ b.toNat → b.toNat < 0xC000 →
      s.read8 a = (match s.cart.ramBankOrRtc.toNat with
        | 8 => s.cart.rtc.sec
        | 9 => s.cart.rtc.min
        | 10 => s.cart.rtc.hour
        | 11 => s.cart.rtc.dayLow
        | _ => s.cart.rtc.dayHigh) ∧
      (s.write8 a v).read8 b = v &&& (match s.cart.ramBankOrRtc.toNat with
        | 8 => 0x3F
        | 9 => 0x3F
        | 10 => 0x1F
        | 11 => 0xFF
        | _ => 0xC1)) ∧
    (s.cart.ramEnable = false ∨ (4 ≤ s.cart.ramBankOrRtc.toNat ∧ s.cart.ramBankOrRtc.toNat ≤ 7) ∨
      0xD ≤ s.cart.ramBankOrRtc.toNat ∨ (8 ≤ s.cart.ramBankOrRtc.toNat ∧ s.cart.hasRtc = false) →
      ShowsNoRam s))

/-- On an MBC3 with a clock, writing 0x00 and then 0x01 to 6000-7FFF, at the same or at different addresses, leaves in
the clock registers a time with seconds and minutes below 60, hours below 24 and a day below 512, the halt and carry
bits 0. Without a clock the registers stay. The time itself is a free value: the statement holds for whatever is
drawn. (63_cartridge_mbc.md rule R547 (RTC_NOW is an open parameter, log entry 4).) -/
def Obligations.RtcLatch : Prop :=
  (∀ (s : State) (a b : Word), s.cart.kind = .mbc3 → s.cart.hasRtc = true →
    0x6000 ≤ a.toNat → a.toNat < 0x8000 → 0x6000 ≤ b.toNat → b.toNat < 0x8000 →
    let t := (s.write8 a 0x00).write8 b 0x01
    t.cart.rtc.sec.toNat < 60 ∧ t.cart.rtc.min.toNat < 60 ∧ t.cart.rtc.hour.toNat < 24 ∧
    t.cart.rtc.dayHigh.toNat < 2 ∧ t.cart.rtcLatchPrev = 1 ∧ (s.write8 a 0x00).cart.rtc = s.cart.rtc ∧
    t.cart = { s.cart with rtc := t.cart.rtc, rtcLatchPrev := 1 }) ∧
  (∀ (s : State) (a : Word) (v : Byte), s.cart.kind = .mbc3 → s.cart.hasRtc = false →
    0x6000 ≤ a.toNat → a.toNat < 0x8000 →
    s.write8 a v = { s with cart := { s.cart with rtcLatchPrev := v } })

/-- For a cartridge with a battery (with 512 bytes on an MBC2): the snapshot has the length of the RAM, is accepted as
initial RAM, and with that RAM every address of the RAM window reads as before. (63_cartridge_mbc.md rules R540,
R555.) -/
def Obligations.BatteryRoundTrip : Prop :=
  ∀ s : State, s.cart.hasBattery = true → (s.cart.kind = .mbc2 → s.cart.ramSize = 512) →
    ∃ bs ram, s.snapshotSram = some bs ∧ bs.length = s.cart.ramSize ∧
      sramInit s.cart.kind true s.cart.ramSize (some bs) = .ok ram ∧
      ∀ a : Nat, Cart.readRam { s.cart with ram := ram } a = s.cart.readRam a

/-- After reset A = 01, F = B0, B = 00, C = 13, D = 00, E = D8, H = 01, L = 4D, SP = FFFE, PC = 0100, and IME,
ei_pending, halted, stopped, frozen and halt_bug are 0; IE is 0 and IF[0] is 1, so that no interrupt is enabled.
(R601.) -/
def Obligations.ResetRegisters : Prop :=
  ∀ (k : SysclkReset) (cart : Cart),
    let s := State.cold k cart
    s.cpu.a = 0x01 ∧ s.cpu.f = 0xB0 ∧ s.cpu.b = 0x00 ∧ s.cpu.c = 0x13 ∧ s.cpu.d = 0x00 ∧ s.cpu.e = 0xD8 ∧
    s.cpu.h = 0x01 ∧ s.cpu.l = 0x4D ∧ s.cpu.sp = 0xFFFE ∧ s.cpu.pc = 0x0100 ∧
    s.cpu.zf = true ∧ s.cpu.nf = false ∧ s.cpu.hf = true ∧ s.cpu.cf = true ∧
    s.cpu.ime = false ∧ s.cpu.eiPending = false ∧ s.cpu.halted = false ∧ s.cpu.stopped = false ∧
    s.cpu.frozen = false ∧ s.cpu.haltBug = false ∧ s.read8 0xFFFF = 0x00 ∧ s.irq.iflag.getLsbD 0 = true ∧
    s.irq.pending = false

/-- After reset the mapped device registers read the values of the reset column of the register map, and all RAMs read
0. DIV is left out: it reads the high byte of the parameter SYSCLK_RESET. (10_state.md rule R34 (all rows but DIV);
70_reset_and_hazards.md rules R602 to R606.) -/
def Obligations.ResetDeviceReads : Prop :=
  ∀ (k : SysclkReset) (cart : Cart),
    let s := State.cold k cart
    (∀ r ∈ ([(0xFF00, 0xCF), (0xFF01, 0x00), (0xFF02, 0x7E), (0xFF05, 0x00), (0xFF06, 0x00), (0xFF07, 0xF8),
      (0xFF0F, 0xE1), (0xFF10, 0x80), (0xFF11, 0xBF), (0xFF12, 0xF3), (0xFF13, 0xFF), (0xFF14, 0xBF), (0xFF16, 0x3F),
      (0xFF17, 0x00), (0xFF18, 0xFF), (0xFF19, 0xBF), (0xFF1A, 0x7F), (0xFF1B, 0xFF), (0xFF1C, 0x9F), (0xFF1D, 0xFF),
      (0xFF1E, 0xBF), (0xFF20, 0xFF), (0xFF21, 0x00), (0xFF22, 0x00), (0xFF23, 0xBF)] : List (Word × Byte)),
      s.read8 r.1 = r.2) ∧
    (∀ r ∈ ([(0xFF24, 0x77), (0xFF25, 0xF3), (0xFF26, 0xF1), (0xFF40, 0x91), (0xFF41, 0x86), (0xFF42, 0x00),
      (0xFF43, 0x00), (0xFF44, 0x00), (0xFF45, 0x00), (0xFF46, 0xFF), (0xFF47, 0xFC), (0xFF48, 0xFF), (0xFF49, 0xFF),
      (0xFF4A, 0x00), (0xFF4B, 0x00), (0xFFFF, 0x00)] : List (Word × Byte)), s.read8 r.1 = r.2) ∧
    s.read8 0xFF04 = hi k.value ∧
    (∀ a : Word, plainRam a = true ∨ regionOf a = .vram ∨ (0xFF30 ≤ a.toNat ∧ a.toNat ≤ 0xFF3F) → s.read8 a = 0) ∧
    (∀ a : Nat, Memory.read s.mem a = 0)

/-- Two consecutive resets are one; the result depends on the state before only through the cartridge's ROM, its
constants and CartRAM (and the model's own count of clock draws), it clears frozen, and it sets BUTTONS to 0.
(70_reset_and_hazards.md rules R600, R607, R608; log entry 4 (the count of draws is the model's).) -/
def Obligations.ResetIsIdempotent : Prop :=
  ∀ (k : SysclkReset) (s t : State),
    (s.hostReset k).hostReset k = s.hostReset k ∧ (s.hostReset k).cpu.frozen = false ∧
    (s.hostReset k).joypad.buttons = 0 ∧ (s.hostReset k).cart.ram = s.cart.ram ∧
    (s.hostReset k).cart.rom = s.cart.rom ∧
    (s.cart.rom = t.cart.rom → s.cart.kind = t.cart.kind → s.cart.romBanks = t.cart.romBanks →
      s.cart.ramSize = t.cart.ramSize → s.cart.hasBattery = t.cart.hasBattery → s.cart.hasRtc = t.cart.hasRtc →
      s.cart.ram = t.cart.ram → s.draws = t.draws → s.hostReset k = t.hostReset k)

/-- For every SYSCLK_RESET and every cartridge whose RAM list is in canonical form, with its controller at reset, the
reset state meets every invariant that the statements below say each step keeps. So does State.reset, which holds the
model's choices of a blank cartridge and of the default SYSCLK_RESET (log entries 1 and 2). The canonical form of the
lists of cells, in MemInv and CartRamInv, is a choice of the model too and no rule of the spec (log entries 14 and
18). (70_reset_and_hazards.md rules R602 to R607; 63_cartridge_mbc.md rule R520; log entries 1 and 2 (State.reset: the
blank cartridge, the default SYSCLK_RESET); log entries 14 and 18 (the canonical form of the lists of cells).) -/
def Obligations.ResetInvariants : Prop :=
  (∀ (k : SysclkReset) (cart : Cart), Memory.wf cart.ram →
    let s := State.cold k cart.resetController
    MemInv s ∧ PpuInv s ∧ TimerInv s ∧ DacInv s ∧ BankInv s ∧ CartRamInv s) ∧
  MemInv State.reset ∧ PpuInv State.reset ∧ TimerInv State.reset ∧ DacInv State.reset ∧ BankInv State.reset ∧
  CartRamInv State.reset

/-- From every state whose memory is in canonical form and lists only storage bytes (VRAM, WRAM, OAM, wave RAM, HRAM),
and whose cartridge RAM is in canonical form, each step leads to such a state. The storage bytes are the spec's; the
lists of cells and their canonical form (addresses rising, no cell that holds 0) are the model's choice and no rule of
the spec (log entries 14 and 18). (20_memory.md rules R60, R62, R80 (which bytes are storage and what writes them);
log entries 14 and 18 (the canonical form of the lists of cells).) -/
def Obligations.StepKeepsMemory : Prop :=
  ∀ s t : State, MemInv s → CartRamInv s → step s = .next t → MemInv t ∧ CartRamInv t

/-- From every state with LY at most 153, the mode that the line and the dot fix (mode 0, line 0, dot 0 with the LCD
off), stat_prev equal to the STAT line and at most ten listed sprites in order, each step leads to such a state.
(61_ppu.md rules R404, R410, R413, R414, R415.) -/
def Obligations.StepKeepsPpuSchedule : Prop :=
  ∀ s t : State, PpuInv s → step s = .next t → PpuInv t

/-- From every state in which sysclk is a multiple of 4 and the reload countdown is 0 or 4, each step leads to such a
state: an overflow falls on the last t-cycle of an m-cycle, and so does the reload one m-cycle later.
(60_exceptions.md rule R340.) -/
def Obligations.StepKeepsTimerPhase : Prop :=
  ∀ s t : State, TimerInv s → step s = .next t → TimerInv t

/-- From every state in which each enabled channel has its DAC on, each step leads to such a state. (62_apu.md rules
R455, R458, R490 to R495, R500.) -/
def Obligations.StepKeepsDacRule : Prop :=
  ∀ s t : State, DacInv s → step s = .next t → DacInv t

/-- Every step keeps ROM, the controller kind, the number of banks, the RAM size and the battery and clock flags; and
from every state in which no bank register of the high window is 0, each step leads to such a state. (20_memory.md
rule R63; 63_cartridge_mbc.md rules R520, R530, R532, R539, R545.) -/
def Obligations.StepKeepsCartridge : Prop :=
  ∀ s t : State, step s = .next t →
    t.cart.rom = s.cart.rom ∧ t.cart.kind = s.cart.kind ∧ t.cart.romBanks = s.cart.romBanks ∧
    t.cart.ramSize = s.cart.ramSize ∧ t.cart.hasBattery = s.cart.hasBattery ∧ t.cart.hasRtc = s.cart.hasRtc ∧
    (BankInv s → BankInv t)
end

