-- ==== Sys2Proof/Laws/Bits.lean ====
section
/-! SUPPORT. The laws of the bit-field helpers. -/

set_option Elab.async false

namespace Sys2Proof

theorem hiLo_toNat (h l : Byte) : (hiLo h l).toNat = h.toNat * 256 + l.toNat := by
  have := l.isLt
  simp only [hiLo, BitVec.toNat_append]
  rw [← Nat.shiftLeft_add_eq_or_of_lt this, Nat.shiftLeft_eq]

theorem lo_toNat (w : Word) : (lo w).toNat = w.toNat % 256 := by
  simp [lo, BitVec.extractLsb'_toNat]

theorem hi_toNat (w : Word) : (hi w).toNat = w.toNat / 256 := by
  have := w.isLt
  simp only [hi, BitVec.extractLsb'_toNat, Nat.shiftRight_eq_div_pow]
  omega

@[simp] theorem hiLo_hi_lo (w : Word) : hiLo (hi w) (lo w) = w := by
  apply BitVec.eq_of_toNat_eq
  rw [hiLo_toNat, hi_toNat, lo_toNat]
  omega

@[simp] theorem hi_hiLo (h l : Byte) : hi (hiLo h l) = h := by
  apply BitVec.eq_of_toNat_eq
  have := l.isLt
  rw [hi_toNat, hiLo_toNat]
  omega

@[simp] theorem lo_hiLo (h l : Byte) : lo (hiLo h l) = l := by
  apply BitVec.eq_of_toNat_eq
  have := l.isLt
  rw [lo_toNat, hiLo_toNat]
  omega

theorem bit_eq {n : Nat} (v : BitVec n) (i : Nat) : bit v i = v.getLsbD i := rfl

theorem bit1_toNat (b : Bool) : (bit1 b).toNat = b.toNat := by cases b <;> rfl

end Sys2Proof
end

