-- ==== Sys2Proof/Laws/Memory.lean ====
section
/-! SUPPORT. The laws of the cell lists: a read after a write, and the canonical form kept by every operation. -/

set_option Elab.async false

namespace Sys2Proof.Machine

@[simp] theorem Memory.read_nil (a : Nat) : Memory.read [] a = 0 := rfl

theorem Memory.read_erase_same (m : List Host.Cell) (a : Nat) : Memory.read (Memory.erase m a) a = 0 := by
  induction m with
  | nil => rfl
  | cons c m ih =>
    obtain ⟨k, v⟩ := c
    by_cases h : k = a <;> simp [Memory.erase, Memory.read, h, ih]

theorem Memory.read_erase_other (m : List Host.Cell) {a b : Nat} (h : b ≠ a) :
    Memory.read (Memory.erase m a) b = Memory.read m b := by
  induction m with
  | nil => rfl
  | cons c m ih =>
    obtain ⟨k, v⟩ := c
    by_cases hk : k = a
    · subst hk
      simp [Memory.erase, Memory.read, ih, Ne.symm h]
    · simp only [Memory.erase, if_neg hk, Memory.read, ih]

theorem Memory.read_insert_same (m : List Host.Cell) (a : Nat) (v : Byte) (h : ∀ c ∈ m, c.1 ≠ a) :
    Memory.read (Memory.insert m a v) a = v := by
  induction m with
  | nil => simp [Memory.insert, Memory.read]
  | cons c m ih =>
    obtain ⟨k, w⟩ := c
    have hk : k ≠ a := h (k, w) (by simp)
    have ht : ∀ c ∈ m, c.1 ≠ a := fun c hc => h c (by simp [hc])
    by_cases hlt : a < k <;> simp [Memory.insert, Memory.read, hlt, hk, ih ht]

theorem Memory.read_insert_other (m : List Host.Cell) {a b : Nat} (v : Byte) (h : b ≠ a) :
    Memory.read (Memory.insert m a v) b = Memory.read m b := by
  induction m with
  | nil => simp [Memory.insert, Memory.read, Ne.symm h]
  | cons c m ih =>
    obtain ⟨k, w⟩ := c
    by_cases hlt : a < k
    · simp [Memory.insert, Memory.read, hlt, Ne.symm h]
    · simp only [Memory.insert, if_neg hlt, Memory.read, ih]

theorem Memory.mem_erase {m : List Host.Cell} {a : Nat} {c : Host.Cell} :
    c ∈ Memory.erase m a ↔ c ∈ m ∧ c.1 ≠ a := by
  induction m with
  | nil => simp [Memory.erase]
  | cons d m ih =>
    obtain ⟨k, v⟩ := d
    by_cases hk : k = a
    · subst hk
      simp only [Memory.erase, if_true, ih, List.mem_cons]
      constructor
      · rintro ⟨h1, h2⟩; exact ⟨Or.inr h1, h2⟩
      · rintro ⟨h1 | h1, h2⟩
        · subst h1; exact absurd rfl h2
        · exact ⟨h1, h2⟩
    · simp only [Memory.erase, if_neg hk, List.mem_cons, ih]
      constructor
      · rintro (h | ⟨h1, h2⟩)
        · subst h; exact ⟨Or.inl rfl, hk⟩
        · exact ⟨Or.inr h1, h2⟩
      · rintro ⟨h1 | h1, h2⟩
        · exact Or.inl h1
        · exact Or.inr ⟨h1, h2⟩

theorem Memory.mem_insert {m : List Host.Cell} {a : Nat} {v : Byte} {c : Host.Cell} :
    c ∈ Memory.insert m a v ↔ c = (a, v) ∨ c ∈ m := by
  induction m with
  | nil => simp [Memory.insert]
  | cons d m ih =>
    obtain ⟨k, w⟩ := d
    by_cases hlt : a < k
    · simp [Memory.insert, hlt]
    · simp only [Memory.insert, if_neg hlt, List.mem_cons, ih]
      tauto

/-- A read of the address written gives the value written. -/
@[simp] theorem Memory.read_write_same (m : List Host.Cell) (a : Nat) (v : Byte) :
    Memory.read (Memory.write m a v) a = v := by
  unfold Memory.write
  split
  · next h => rw [Memory.read_erase_same, h]
  · exact Memory.read_insert_same _ _ _ (fun c hc => (Memory.mem_erase.mp hc).2)

/-- A read of another address is what it was. -/
theorem Memory.read_write_other (m : List Host.Cell) {a b : Nat} (v : Byte) (h : b ≠ a) :
    Memory.read (Memory.write m a v) b = Memory.read m b := by
  unfold Memory.write
  split
  · exact Memory.read_erase_other m h
  · rw [Memory.read_insert_other _ _ h, Memory.read_erase_other m h]

/-- A write lists no new address but the one written. -/
theorem Memory.mem_write {m : List Host.Cell} {a : Nat} {v : Byte} {c : Host.Cell} (h : c ∈ Memory.write m a v) :
    c = (a, v) ∨ c ∈ m := by
  unfold Memory.write at h
  split at h
  · exact Or.inr (Memory.mem_erase.mp h).1
  · rcases Memory.mem_insert.mp h with h | h
    · exact Or.inl h
    · exact Or.inr (Memory.mem_erase.mp h).1

theorem Memory.wf_nil : Memory.wf [] := by simp [Memory.wf]

theorem Memory.wf_erase {m : List Host.Cell} (a : Nat) (h : Memory.wf m) : Memory.wf (Memory.erase m a) := by
  obtain ⟨h1, h2⟩ := h
  refine ⟨?_, fun c hc => h2 c (Memory.mem_erase.mp hc).1⟩
  clear h2
  induction m with
  | nil => exact h1
  | cons d m ih =>
    obtain ⟨k, v⟩ := d
    rw [List.pairwise_cons] at h1
    by_cases hk : k = a
    · simpa [Memory.erase, hk] using ih h1.2
    · simp only [Memory.erase, if_neg hk, List.pairwise_cons]
      exact ⟨fun c hc => h1.1 c (Memory.mem_erase.mp hc).1, ih h1.2⟩

theorem Memory.wf_insert {m : List Host.Cell} {a : Nat} {v : Byte} (h : Memory.wf m) (ha : ∀ c ∈ m, c.1 ≠ a)
    (hv : v ≠ 0) : Memory.wf (Memory.insert m a v) := by
  obtain ⟨h1, h2⟩ := h
  constructor
  · clear h2
    induction m with
    | nil => simp [Memory.insert]
    | cons d m ih =>
      obtain ⟨k, w⟩ := d
      have hk : k ≠ a := ha (k, w) (by simp)
      rw [List.pairwise_cons] at h1
      by_cases hlt : a < k
      · simp only [Memory.insert, if_pos hlt, List.pairwise_cons]
        refine ⟨fun c hc => ?_, h1⟩
        rcases List.mem_cons.mp hc with rfl | hc
        · exact hlt
        · exact Nat.lt_trans hlt (h1.1 c hc)
      · simp only [Memory.insert, if_neg hlt, List.pairwise_cons]
        refine ⟨fun c hc => ?_, ih (fun c hc => ha c (by simp [hc])) h1.2⟩
        rcases Memory.mem_insert.mp hc with rfl | hc
        · show k < a
          omega
        · exact h1.1 c hc
  · intro c hc
    rcases Memory.mem_insert.mp hc with rfl | hc
    · exact hv
    · exact h2 c hc

/-- A write keeps the canonical form. -/
theorem Memory.wf_write {m : List Host.Cell} (a : Nat) (v : Byte) (h : Memory.wf m) :
    Memory.wf (Memory.write m a v) := by
  unfold Memory.write
  split
  · exact Memory.wf_erase a h
  · next hv => exact Memory.wf_insert (Memory.wf_erase a h) (fun c hc => (Memory.mem_erase.mp hc).2) hv

theorem Memory.ofBytes_key {base : Nat} {bs : List Byte} {c : Host.Cell} (h : c ∈ Memory.ofBytes base bs) :
    base ≤ c.1 ∧ c.1 < base + bs.length ∧ c.2 ≠ 0 := by
  induction bs generalizing base with
  | nil => simp [Memory.ofBytes] at h
  | cons b bs ih =>
    simp only [Memory.ofBytes] at h
    split at h
    · have := ih h
      simp only [List.length_cons]
      exact ⟨by omega, by omega, this.2.2⟩
    · next hb =>
      rcases List.mem_cons.mp h with rfl | h
      · exact ⟨Nat.le_refl _, by simp, hb⟩
      · have := ih h
        simp only [List.length_cons]
        exact ⟨by omega, by omega, this.2.2⟩

/-- The cells of a byte list are in canonical form. -/
theorem Memory.wf_ofBytes (base : Nat) (bs : List Byte) : Memory.wf (Memory.ofBytes base bs) := by
  refine ⟨?_, fun c hc => (Memory.ofBytes_key hc).2.2⟩
  induction bs generalizing base with
  | nil => simp [Memory.ofBytes]
  | cons b bs ih =>
    simp only [Memory.ofBytes]
    split
    · exact ih _
    · rw [List.pairwise_cons]
      refine ⟨fun c hc => ?_, ih _⟩
      have := (Memory.ofBytes_key hc).1
      show base < c.1
      omega

/-- The cells of a byte list read as the list. -/
theorem Memory.read_ofBytes (base : Nat) (bs : List Byte) (i : Nat) :
    Memory.read (Memory.ofBytes base bs) (base + i) = bs.getD i 0 := by
  induction bs generalizing base i with
  | nil => simp [Memory.ofBytes]
  | cons b bs ih =>
    have hnext : ∀ j, Memory.read (Memory.ofBytes (base + 1) bs) (base + (j + 1)) = bs.getD j 0 := by
      intro j
      rw [show base + (j + 1) = base + 1 + j by omega]
      exact ih (base + 1) j
    have hzero : Memory.read (Memory.ofBytes (base + 1) bs) base = 0 := by
      have hk : ∀ c ∈ Memory.ofBytes (base + 1) bs, c.1 ≠ base := fun c hc => by
        have := (Memory.ofBytes_key hc).1
        omega
      generalize Memory.ofBytes (base + 1) bs = m at hk
      induction m with
      | nil => rfl
      | cons d m ihm =>
        obtain ⟨k, w⟩ := d
        have hkb : k ≠ base := hk (k, w) (by simp)
        simpa [Memory.read, hkb] using ihm (fun c hc => hk c (by simp [hc]))
    by_cases hb : b = 0
    · simp only [Memory.ofBytes, if_pos hb]
      cases i with
      | zero => simpa [hb] using hzero
      | succ j => simpa using hnext j
    · simp only [Memory.ofBytes, if_neg hb, Memory.read]
      cases i with
      | zero => simp
      | succ j =>
        have hne : base ≠ base + (j + 1) := by omega
        simpa [hne] using hnext j

end Sys2Proof.Machine
end

