-- ==== Sys2Proof/Laws/State.lean ====
section
/-! SUPPORT. What each named update of `State` does to each field: one lemma per field per update. -/

set_option Elab.async false

namespace Sys2Proof.Machine

@[simp] theorem State.setCpu_cpu (s : State) (x : Cpu) : (s.setCpu x).cpu = x := rfl
@[simp] theorem State.setCpu_irq (s : State) (x : Cpu) : (s.setCpu x).irq = s.irq := rfl
@[simp] theorem State.setCpu_timer (s : State) (x : Cpu) : (s.setCpu x).timer = s.timer := rfl
@[simp] theorem State.setCpu_joypad (s : State) (x : Cpu) : (s.setCpu x).joypad = s.joypad := rfl
@[simp] theorem State.setCpu_serial (s : State) (x : Cpu) : (s.setCpu x).serial = s.serial := rfl
@[simp] theorem State.setCpu_ppu (s : State) (x : Cpu) : (s.setCpu x).ppu = s.ppu := rfl
@[simp] theorem State.setCpu_apu (s : State) (x : Cpu) : (s.setCpu x).apu = s.apu := rfl
@[simp] theorem State.setCpu_cart (s : State) (x : Cpu) : (s.setCpu x).cart = s.cart := rfl
@[simp] theorem State.setCpu_mem (s : State) (x : Cpu) : (s.setCpu x).mem = s.mem := rfl
@[simp] theorem State.setCpu_cycles (s : State) (x : Cpu) : (s.setCpu x).cycles = s.cycles := rfl
@[simp] theorem State.setCpu_draws (s : State) (x : Cpu) : (s.setCpu x).draws = s.draws := rfl

@[simp] theorem State.setIrq_cpu (s : State) (x : Irq) : (s.setIrq x).cpu = s.cpu := rfl
@[simp] theorem State.setIrq_irq (s : State) (x : Irq) : (s.setIrq x).irq = x := rfl
@[simp] theorem State.setIrq_timer (s : State) (x : Irq) : (s.setIrq x).timer = s.timer := rfl
@[simp] theorem State.setIrq_joypad (s : State) (x : Irq) : (s.setIrq x).joypad = s.joypad := rfl
@[simp] theorem State.setIrq_serial (s : State) (x : Irq) : (s.setIrq x).serial = s.serial := rfl
@[simp] theorem State.setIrq_ppu (s : State) (x : Irq) : (s.setIrq x).ppu = s.ppu := rfl
@[simp] theorem State.setIrq_apu (s : State) (x : Irq) : (s.setIrq x).apu = s.apu := rfl
@[simp] theorem State.setIrq_cart (s : State) (x : Irq) : (s.setIrq x).cart = s.cart := rfl
@[simp] theorem State.setIrq_mem (s : State) (x : Irq) : (s.setIrq x).mem = s.mem := rfl
@[simp] theorem State.setIrq_cycles (s : State) (x : Irq) : (s.setIrq x).cycles = s.cycles := rfl
@[simp] theorem State.setIrq_draws (s : State) (x : Irq) : (s.setIrq x).draws = s.draws := rfl

@[simp] theorem State.setTimer_cpu (s : State) (x : Timer) : (s.setTimer x).cpu = s.cpu := rfl
@[simp] theorem State.setTimer_irq (s : State) (x : Timer) : (s.setTimer x).irq = s.irq := rfl
@[simp] theorem State.setTimer_timer (s : State) (x : Timer) : (s.setTimer x).timer = x := rfl
@[simp] theorem State.setTimer_joypad (s : State) (x : Timer) : (s.setTimer x).joypad = s.joypad := rfl
@[simp] theorem State.setTimer_serial (s : State) (x : Timer) : (s.setTimer x).serial = s.serial := rfl
@[simp] theorem State.setTimer_ppu (s : State) (x : Timer) : (s.setTimer x).ppu = s.ppu := rfl
@[simp] theorem State.setTimer_apu (s : State) (x : Timer) : (s.setTimer x).apu = s.apu := rfl
@[simp] theorem State.setTimer_cart (s : State) (x : Timer) : (s.setTimer x).cart = s.cart := rfl
@[simp] theorem State.setTimer_mem (s : State) (x : Timer) : (s.setTimer x).mem = s.mem := rfl
@[simp] theorem State.setTimer_cycles (s : State) (x : Timer) : (s.setTimer x).cycles = s.cycles := rfl
@[simp] theorem State.setTimer_draws (s : State) (x : Timer) : (s.setTimer x).draws = s.draws := rfl

@[simp] theorem State.setJoypad_cpu (s : State) (x : Joypad) : (s.setJoypad x).cpu = s.cpu := rfl
@[simp] theorem State.setJoypad_irq (s : State) (x : Joypad) : (s.setJoypad x).irq = s.irq := rfl
@[simp] theorem State.setJoypad_timer (s : State) (x : Joypad) : (s.setJoypad x).timer = s.timer := rfl
@[simp] theorem State.setJoypad_joypad (s : State) (x : Joypad) : (s.setJoypad x).joypad = x := rfl
@[simp] theorem State.setJoypad_serial (s : State) (x : Joypad) : (s.setJoypad x).serial = s.serial := rfl
@[simp] theorem State.setJoypad_ppu (s : State) (x : Joypad) : (s.setJoypad x).ppu = s.ppu := rfl
@[simp] theorem State.setJoypad_apu (s : State) (x : Joypad) : (s.setJoypad x).apu = s.apu := rfl
@[simp] theorem State.setJoypad_cart (s : State) (x : Joypad) : (s.setJoypad x).cart = s.cart := rfl
@[simp] theorem State.setJoypad_mem (s : State) (x : Joypad) : (s.setJoypad x).mem = s.mem := rfl
@[simp] theorem State.setJoypad_cycles (s : State) (x : Joypad) : (s.setJoypad x).cycles = s.cycles := rfl
@[simp] theorem State.setJoypad_draws (s : State) (x : Joypad) : (s.setJoypad x).draws = s.draws := rfl

@[simp] theorem State.setSerial_cpu (s : State) (x : Serial) : (s.setSerial x).cpu = s.cpu := rfl
@[simp] theorem State.setSerial_irq (s : State) (x : Serial) : (s.setSerial x).irq = s.irq := rfl
@[simp] theorem State.setSerial_timer (s : State) (x : Serial) : (s.setSerial x).timer = s.timer := rfl
@[simp] theorem State.setSerial_joypad (s : State) (x : Serial) : (s.setSerial x).joypad = s.joypad := rfl
@[simp] theorem State.setSerial_serial (s : State) (x : Serial) : (s.setSerial x).serial = x := rfl
@[simp] theorem State.setSerial_ppu (s : State) (x : Serial) : (s.setSerial x).ppu = s.ppu := rfl
@[simp] theorem State.setSerial_apu (s : State) (x : Serial) : (s.setSerial x).apu = s.apu := rfl
@[simp] theorem State.setSerial_cart (s : State) (x : Serial) : (s.setSerial x).cart = s.cart := rfl
@[simp] theorem State.setSerial_mem (s : State) (x : Serial) : (s.setSerial x).mem = s.mem := rfl
@[simp] theorem State.setSerial_cycles (s : State) (x : Serial) : (s.setSerial x).cycles = s.cycles := rfl
@[simp] theorem State.setSerial_draws (s : State) (x : Serial) : (s.setSerial x).draws = s.draws := rfl

@[simp] theorem State.setPpu_cpu (s : State) (x : Ppu) : (s.setPpu x).cpu = s.cpu := rfl
@[simp] theorem State.setPpu_irq (s : State) (x : Ppu) : (s.setPpu x).irq = s.irq := rfl
@[simp] theorem State.setPpu_timer (s : State) (x : Ppu) : (s.setPpu x).timer = s.timer := rfl
@[simp] theorem State.setPpu_joypad (s : State) (x : Ppu) : (s.setPpu x).joypad = s.joypad := rfl
@[simp] theorem State.setPpu_serial (s : State) (x : Ppu) : (s.setPpu x).serial = s.serial := rfl
@[simp] theorem State.setPpu_ppu (s : State) (x : Ppu) : (s.setPpu x).ppu = x := rfl
@[simp] theorem State.setPpu_apu (s : State) (x : Ppu) : (s.setPpu x).apu = s.apu := rfl
@[simp] theorem State.setPpu_cart (s : State) (x : Ppu) : (s.setPpu x).cart = s.cart := rfl
@[simp] theorem State.setPpu_mem (s : State) (x : Ppu) : (s.setPpu x).mem = s.mem := rfl
@[simp] theorem State.setPpu_cycles (s : State) (x : Ppu) : (s.setPpu x).cycles = s.cycles := rfl
@[simp] theorem State.setPpu_draws (s : State) (x : Ppu) : (s.setPpu x).draws = s.draws := rfl

@[simp] theorem State.setApu_cpu (s : State) (x : Apu) : (s.setApu x).cpu = s.cpu := rfl
@[simp] theorem State.setApu_irq (s : State) (x : Apu) : (s.setApu x).irq = s.irq := rfl
@[simp] theorem State.setApu_timer (s : State) (x : Apu) : (s.setApu x).timer = s.timer := rfl
@[simp] theorem State.setApu_joypad (s : State) (x : Apu) : (s.setApu x).joypad = s.joypad := rfl
@[simp] theorem State.setApu_serial (s : State) (x : Apu) : (s.setApu x).serial = s.serial := rfl
@[simp] theorem State.setApu_ppu (s : State) (x : Apu) : (s.setApu x).ppu = s.ppu := rfl
@[simp] theorem State.setApu_apu (s : State) (x : Apu) : (s.setApu x).apu = x := rfl
@[simp] theorem State.setApu_cart (s : State) (x : Apu) : (s.setApu x).cart = s.cart := rfl
@[simp] theorem State.setApu_mem (s : State) (x : Apu) : (s.setApu x).mem = s.mem := rfl
@[simp] theorem State.setApu_cycles (s : State) (x : Apu) : (s.setApu x).cycles = s.cycles := rfl
@[simp] theorem State.setApu_draws (s : State) (x : Apu) : (s.setApu x).draws = s.draws := rfl

@[simp] theorem State.setCart_cpu (s : State) (x : Cart) : (s.setCart x).cpu = s.cpu := rfl
@[simp] theorem State.setCart_irq (s : State) (x : Cart) : (s.setCart x).irq = s.irq := rfl
@[simp] theorem State.setCart_timer (s : State) (x : Cart) : (s.setCart x).timer = s.timer := rfl
@[simp] theorem State.setCart_joypad (s : State) (x : Cart) : (s.setCart x).joypad = s.joypad := rfl
@[simp] theorem State.setCart_serial (s : State) (x : Cart) : (s.setCart x).serial = s.serial := rfl
@[simp] theorem State.setCart_ppu (s : State) (x : Cart) : (s.setCart x).ppu = s.ppu := rfl
@[simp] theorem State.setCart_apu (s : State) (x : Cart) : (s.setCart x).apu = s.apu := rfl
@[simp] theorem State.setCart_cart (s : State) (x : Cart) : (s.setCart x).cart = x := rfl
@[simp] theorem State.setCart_mem (s : State) (x : Cart) : (s.setCart x).mem = s.mem := rfl
@[simp] theorem State.setCart_cycles (s : State) (x : Cart) : (s.setCart x).cycles = s.cycles := rfl
@[simp] theorem State.setCart_draws (s : State) (x : Cart) : (s.setCart x).draws = s.draws := rfl

@[simp] theorem State.setMem_cpu (s : State) (x : List Host.Cell) : (s.setMem x).cpu = s.cpu := rfl
@[simp] theorem State.setMem_irq (s : State) (x : List Host.Cell) : (s.setMem x).irq = s.irq := rfl
@[simp] theorem State.setMem_timer (s : State) (x : List Host.Cell) : (s.setMem x).timer = s.timer := rfl
@[simp] theorem State.setMem_joypad (s : State) (x : List Host.Cell) : (s.setMem x).joypad = s.joypad := rfl
@[simp] theorem State.setMem_serial (s : State) (x : List Host.Cell) : (s.setMem x).serial = s.serial := rfl
@[simp] theorem State.setMem_ppu (s : State) (x : List Host.Cell) : (s.setMem x).ppu = s.ppu := rfl
@[simp] theorem State.setMem_apu (s : State) (x : List Host.Cell) : (s.setMem x).apu = s.apu := rfl
@[simp] theorem State.setMem_cart (s : State) (x : List Host.Cell) : (s.setMem x).cart = s.cart := rfl
@[simp] theorem State.setMem_mem (s : State) (x : List Host.Cell) : (s.setMem x).mem = x := rfl
@[simp] theorem State.setMem_cycles (s : State) (x : List Host.Cell) : (s.setMem x).cycles = s.cycles := rfl
@[simp] theorem State.setMem_draws (s : State) (x : List Host.Cell) : (s.setMem x).draws = s.draws := rfl

@[simp] theorem State.setDraws_cpu (s : State) (x : Nat) : (s.setDraws x).cpu = s.cpu := rfl
@[simp] theorem State.setDraws_irq (s : State) (x : Nat) : (s.setDraws x).irq = s.irq := rfl
@[simp] theorem State.setDraws_timer (s : State) (x : Nat) : (s.setDraws x).timer = s.timer := rfl
@[simp] theorem State.setDraws_joypad (s : State) (x : Nat) : (s.setDraws x).joypad = s.joypad := rfl
@[simp] theorem State.setDraws_serial (s : State) (x : Nat) : (s.setDraws x).serial = s.serial := rfl
@[simp] theorem State.setDraws_ppu (s : State) (x : Nat) : (s.setDraws x).ppu = s.ppu := rfl
@[simp] theorem State.setDraws_apu (s : State) (x : Nat) : (s.setDraws x).apu = s.apu := rfl
@[simp] theorem State.setDraws_cart (s : State) (x : Nat) : (s.setDraws x).cart = s.cart := rfl
@[simp] theorem State.setDraws_mem (s : State) (x : Nat) : (s.setDraws x).mem = s.mem := rfl
@[simp] theorem State.setDraws_cycles (s : State) (x : Nat) : (s.setDraws x).cycles = s.cycles := rfl
@[simp] theorem State.setDraws_draws (s : State) (x : Nat) : (s.setDraws x).draws = x := rfl

@[simp] theorem State.cost_cpu (s : State) (x : Nat) : (s.cost x).cpu = s.cpu := rfl
@[simp] theorem State.cost_irq (s : State) (x : Nat) : (s.cost x).irq = s.irq := rfl
@[simp] theorem State.cost_timer (s : State) (x : Nat) : (s.cost x).timer = s.timer := rfl
@[simp] theorem State.cost_joypad (s : State) (x : Nat) : (s.cost x).joypad = s.joypad := rfl
@[simp] theorem State.cost_serial (s : State) (x : Nat) : (s.cost x).serial = s.serial := rfl
@[simp] theorem State.cost_ppu (s : State) (x : Nat) : (s.cost x).ppu = s.ppu := rfl
@[simp] theorem State.cost_apu (s : State) (x : Nat) : (s.cost x).apu = s.apu := rfl
@[simp] theorem State.cost_cart (s : State) (x : Nat) : (s.cost x).cart = s.cart := rfl
@[simp] theorem State.cost_mem (s : State) (x : Nat) : (s.cost x).mem = s.mem := rfl
@[simp] theorem State.cost_cycles (s : State) (x : Nat) : (s.cost x).cycles = x := rfl
@[simp] theorem State.cost_draws (s : State) (x : Nat) : (s.cost x).draws = s.draws := rfl

theorem State.setCpu_self (s : State) : s.setCpu s.cpu = s := rfl
@[simp] theorem State.setCpu_setCpu_twice (s : State) (x y : Cpu) : (s.setCpu x).setCpu y = s.setCpu y := rfl
theorem State.setIrq_self (s : State) : s.setIrq s.irq = s := rfl
@[simp] theorem State.setIrq_setIrq_twice (s : State) (x y : Irq) : (s.setIrq x).setIrq y = s.setIrq y := rfl
theorem State.setTimer_self (s : State) : s.setTimer s.timer = s := rfl
@[simp] theorem State.setTimer_setTimer_twice (s : State) (x y : Timer) : (s.setTimer x).setTimer y = s.setTimer y := rfl
theorem State.setJoypad_self (s : State) : s.setJoypad s.joypad = s := rfl
@[simp] theorem State.setJoypad_setJoypad_twice (s : State) (x y : Joypad) : (s.setJoypad x).setJoypad y = s.setJoypad y := rfl
theorem State.setSerial_self (s : State) : s.setSerial s.serial = s := rfl
@[simp] theorem State.setSerial_setSerial_twice (s : State) (x y : Serial) : (s.setSerial x).setSerial y = s.setSerial y := rfl
theorem State.setPpu_self (s : State) : s.setPpu s.ppu = s := rfl
@[simp] theorem State.setPpu_setPpu_twice (s : State) (x y : Ppu) : (s.setPpu x).setPpu y = s.setPpu y := rfl
theorem State.setApu_self (s : State) : s.setApu s.apu = s := rfl
@[simp] theorem State.setApu_setApu_twice (s : State) (x y : Apu) : (s.setApu x).setApu y = s.setApu y := rfl
theorem State.setCart_self (s : State) : s.setCart s.cart = s := rfl
@[simp] theorem State.setCart_setCart_twice (s : State) (x y : Cart) : (s.setCart x).setCart y = s.setCart y := rfl
theorem State.setMem_self (s : State) : s.setMem s.mem = s := rfl
@[simp] theorem State.setMem_setMem_twice (s : State) (x y : List Host.Cell) : (s.setMem x).setMem y = s.setMem y := rfl
theorem State.setDraws_self (s : State) : s.setDraws s.draws = s := rfl
@[simp] theorem State.setDraws_setDraws_twice (s : State) (x y : Nat) : (s.setDraws x).setDraws y = s.setDraws y := rfl
theorem State.cost_self (s : State) : s.cost s.cycles = s := rfl
@[simp] theorem State.cost_cost_twice (s : State) (x y : Nat) : (s.cost x).cost y = s.cost y := rfl

end Sys2Proof.Machine
end

