-- ==== Sys2Proof/Laws/Bus.lean ====
section
/-! SUPPORT. What the bus can do: the regions by their bounds, the read of a region, and everything a write leaves. -/

set_option Elab.async false

namespace Sys2Proof.Machine

theorem Word.toNat_lt (a : Word) : a.toNat < 65536 := a.isLt

/-- The regions by their bounds (R60), as one case analysis. -/
theorem regionOf_cases (a : Word) :
    (regionOf a = .rom ∧ a.toNat < 0x8000) ∨
    (regionOf a = .vram ∧ 0x8000 ≤ a.toNat ∧ a.toNat < 0xA000) ∨
    (regionOf a = .cartRam ∧ 0xA000 ≤ a.toNat ∧ a.toNat < 0xC000) ∨
    (regionOf a = .wram ∧ 0xC000 ≤ a.toNat ∧ a.toNat < 0xE000) ∨
    (regionOf a = .echo ∧ 0xE000 ≤ a.toNat ∧ a.toNat < 0xFE00) ∨
    (regionOf a = .oam ∧ 0xFE00 ≤ a.toNat ∧ a.toNat < 0xFEA0) ∨
    (regionOf a = .unusable ∧ 0xFEA0 ≤ a.toNat ∧ a.toNat < 0xFF00) ∨
    (regionOf a = .io ∧ 0xFF00 ≤ a.toNat ∧ a.toNat < 0xFF80) ∨
    (regionOf a = .hram ∧ 0xFF80 ≤ a.toNat ∧ a.toNat < 0xFFFF) ∨
    (regionOf a = .ie ∧ a.toNat = 0xFFFF) := by
  have := a.isLt
  unfold regionOf
  split_ifs <;> simp <;> omega

@[simp] theorem State.request_cpu (s : State) (m : BitVec 5) : (s.request m).cpu = s.cpu := rfl
@[simp] theorem State.request_mem (s : State) (m : BitVec 5) : (s.request m).mem = s.mem := rfl
@[simp] theorem State.request_cart (s : State) (m : BitVec 5) : (s.request m).cart = s.cart := rfl
@[simp] theorem State.request_timer (s : State) (m : BitVec 5) : (s.request m).timer = s.timer := rfl
@[simp] theorem State.request_joypad (s : State) (m : BitVec 5) : (s.request m).joypad = s.joypad := rfl
@[simp] theorem State.request_serial (s : State) (m : BitVec 5) : (s.request m).serial = s.serial := rfl
@[simp] theorem State.request_ppu (s : State) (m : BitVec 5) : (s.request m).ppu = s.ppu := rfl
@[simp] theorem State.request_apu (s : State) (m : BitVec 5) : (s.request m).apu = s.apu := rfl
@[simp] theorem State.request_cycles (s : State) (m : BitVec 5) : (s.request m).cycles = s.cycles := rfl
@[simp] theorem State.request_draws (s : State) (m : BitVec 5) : (s.request m).draws = s.draws := rfl
@[simp] theorem State.request_irq (s : State) (m : BitVec 5) : (s.request m).irq = s.irq.raise m := rfl
@[simp] theorem Irq.raise_ie (q : Irq) (m : BitVec 5) : (q.raise m).ie = q.ie := rfl
@[simp] theorem Irq.raise_iflag (q : Irq) (m : BitVec 5) : (q.raise m).iflag = q.iflag ||| m := rfl

@[simp] theorem State.poke_cpu (s : State) (a : Nat) (v : Byte) : (s.poke a v).cpu = s.cpu := rfl
@[simp] theorem State.poke_irq (s : State) (a : Nat) (v : Byte) : (s.poke a v).irq = s.irq := rfl
@[simp] theorem State.poke_ppu (s : State) (a : Nat) (v : Byte) : (s.poke a v).ppu = s.ppu := rfl
@[simp] theorem State.poke_cart (s : State) (a : Nat) (v : Byte) : (s.poke a v).cart = s.cart := rfl
@[simp] theorem State.poke_mem (s : State) (a : Nat) (v : Byte) : (s.poke a v).mem = Memory.write s.mem a v := rfl

/-- A read does not see the CPU registers. -/
@[simp] theorem State.read8_setCpu (s : State) (c : Cpu) (a : Word) : (s.setCpu c).read8 a = s.read8 a := rfl
@[simp] theorem State.read8_cost (s : State) (n : Nat) (a : Word) : (s.cost n).read8 a = s.read8 a := rfl

/-- A write of `DIV` is a write of the timer and the APU. -/
theorem State.writeDiv_eq (s : State) : ∃ t a, s.writeDiv = (s.setTimer t).setApu a := ⟨_, _, rfl⟩

/-- The OAM DMA loop changes the memory only. -/
theorem State.dmaLoop_eq (n i : Nat) (page : Byte) (s : State) :
    State.dmaLoop n i page s = s.setMem (State.dmaLoop n i page s).mem := by
  induction n generalizing i s with
  | zero => rfl
  | succ n ih =>
    rw [State.dmaLoop, ih]
    rfl

/-- The OAM DMA loop does not see the CPU registers. -/
theorem State.dmaLoop_setCpu (n i : Nat) (page : Byte) (s : State) (c : Cpu) :
    State.dmaLoop n i page (s.setCpu c) = (State.dmaLoop n i page s).setCpu c := by
  induction n generalizing i s with
  | zero => rfl
  | succ n ih =>
    rw [State.dmaLoop, State.dmaLoop, ← ih]
    rfl

/-- A bus write changes none of these. -/
theorem State.write8_kept (s : State) (a : Word) (v : Byte) :
    (s.write8 a v).cpu = s.cpu ∧ (s.write8 a v).cycles = s.cycles := by
  unfold State.write8
  split
  · exact ⟨rfl, rfl⟩
  · split <;> exact ⟨rfl, rfl⟩
  · exact ⟨rfl, rfl⟩
  · exact ⟨rfl, rfl⟩
  · exact ⟨rfl, rfl⟩
  · split <;> exact ⟨rfl, rfl⟩
  · exact ⟨rfl, rfl⟩
  · unfold State.writeIoPage
    split
    · next r _ =>
      cases r
      case dma =>
        show (State.oamDma s v).cpu = s.cpu ∧ (State.oamDma s v).cycles = s.cycles
        unfold State.oamDma
        rw [State.dmaLoop_eq]
        exact ⟨rfl, rfl⟩
      all_goals exact ⟨rfl, rfl⟩
    · exact ⟨rfl, rfl⟩
  · exact ⟨rfl, rfl⟩
  · exact ⟨rfl, rfl⟩

@[simp] theorem State.write8_cpu (s : State) (a : Word) (v : Byte) : (s.write8 a v).cpu = s.cpu :=
  (s.write8_kept a v).1

@[simp] theorem State.write8_cycles (s : State) (a : Word) (v : Byte) : (s.write8 a v).cycles = s.cycles :=
  (s.write8_kept a v).2

/-- A bus write does not see the CPU registers. -/
theorem State.write8_setCpu (s : State) (c : Cpu) (a : Word) (v : Byte) :
    (s.setCpu c).write8 a v = (s.write8 a v).setCpu c := by
  unfold State.write8
  split
  · rfl
  · show (if s.ppu.vramLocked = true then _ else _) = _
    split <;> rfl
  · rfl
  · rfl
  · rfl
  · show (if s.ppu.oamLocked = true then _ else _) = _
    split <;> rfl
  · rfl
  · unfold State.writeIoPage
    split
    · next r _ =>
      cases r
      case dma => exact State.dmaLoop_setCpu 160 0 v (s.setPpu { s.ppu with dma := v }) c
      all_goals rfl
    · rfl
  · rfl
  · rfl

end Sys2Proof.Machine
end

