-- ==== Sys2Proof/Laws/Cycle.lean ====
section
/-! SUPPORT. What the tick of the devices can do. -/

set_option Elab.async false

namespace Sys2Proof.Machine

/-- One t-cycle changes the timer, the PPU, the APU and the requests, nothing else. -/
theorem State.tick1_eq (s : State) : ∃ m : BitVec 5,
    s.tick1 = (((s.setTimer s.timer.tick1.1).setPpu (s.ppu.tick1 s.mem).1).setApu
      (s.apu.tick1 s.timer.tick1.1.sysclk s.mem)).request m := ⟨_, rfl⟩

@[simp] theorem State.tick1_cpu (s : State) : s.tick1.cpu = s.cpu := rfl
@[simp] theorem State.tick1_mem (s : State) : s.tick1.mem = s.mem := rfl
@[simp] theorem State.tick1_cart (s : State) : s.tick1.cart = s.cart := rfl
@[simp] theorem State.tick1_joypad (s : State) : s.tick1.joypad = s.joypad := rfl
@[simp] theorem State.tick1_serial (s : State) : s.tick1.serial = s.serial := rfl
@[simp] theorem State.tick1_cycles (s : State) : s.tick1.cycles = s.cycles := rfl
@[simp] theorem State.tick1_draws (s : State) : s.tick1.draws = s.draws := rfl
@[simp] theorem State.tick1_ie (s : State) : s.tick1.irq.ie = s.irq.ie := rfl
@[simp] theorem State.tick1_timer (s : State) : s.tick1.timer = s.timer.tick1.1 := rfl
@[simp] theorem State.tick1_ppu (s : State) : s.tick1.ppu = (s.ppu.tick1 s.mem).1 := rfl

/-- What a property that every t-cycle keeps says of `Tick(n)`. -/
theorem State.tick_keeps {P : State → Prop} (h : ∀ s, P s → P s.tick1) (n : Nat) (s : State) (hs : P s) :
    P (State.tick n s) := by
  induction n generalizing s with
  | zero => exact hs
  | succ n ih => exact ih _ (h s hs)

/-- A field that no t-cycle changes is one that `Tick(n)` does not change. -/
theorem State.tick_field {α : Type} (f : State → α) (h : ∀ s : State, f s.tick1 = f s) (n : Nat) (s : State) :
    f (State.tick n s) = f s := by
  induction n generalizing s with
  | zero => rfl
  | succ n ih => rw [State.tick, ih, h]

theorem State.tick_add (m n : Nat) (s : State) : State.tick (m + n) s = State.tick n (State.tick m s) := by
  induction m generalizing s with
  | zero => rw [Nat.zero_add]; rfl
  | succ m ih => rw [Nat.succ_add]; exact ih _

/-- The tick sees neither the CPU registers nor the recorded cost. -/
theorem State.tick_setCpu (n : Nat) (s : State) (c : Cpu) : State.tick n (s.setCpu c) = (State.tick n s).setCpu c := by
  induction n generalizing s with
  | zero => rfl
  | succ n ih => exact ih s.tick1

theorem State.tick_cost (n k : Nat) (s : State) : State.tick n (s.cost k) = (State.tick n s).cost k := by
  induction n generalizing s with
  | zero => rfl
  | succ n ih => exact ih s.tick1

end Sys2Proof.Machine
end

