-- ==== Sys2Proof/Laws/Exec.lean ====
section
/-! SUPPORT. The meaning of each family of rows as one operation over its operands: what `exec` does with the
constructor that a family function of Sys2Proof/Syntax.lean picks. -/

set_option Elab.async false

namespace Sys2Proof.Machine

theorem exec_ldRegReg (dst src : Reg8) (s : State) : exec (.ldRegReg dst src) s = loadRegReg dst src s := by
  cases dst <;> cases src <;> rfl

theorem exec_ldRegImm (dst : Reg8) (n : Byte) (s : State) : exec (.ldRegImm dst n) s = loadRegImm dst n s := by
  cases dst <;> rfl

theorem exec_ldRegMem (dst : Reg8) (s : State) : exec (.ldRegMem dst) s = loadRegMem dst s := by
  cases dst <;> rfl

theorem exec_ldMemReg (r : Reg8) (s : State) : exec (.ldMemReg r) s = storeAt s.cpu.hl (s.cpu.reg r) 2 s := by
  cases r <;> rfl

theorem exec_ldPairImm (p : Reg16) (nn : Word) (s : State) : exec (.ldPairImm p nn) s = loadPair p nn s := by
  cases p <;> rfl

theorem exec_push (p : StackReg) (s : State) : exec (.push p) s = pushPair p s := by
  cases p <;> rfl

theorem exec_pop (p : StackReg) (s : State) : exec (.pop p) s = popPair p s := by
  cases p <;> rfl

theorem exec_aluReg (op : AluOp) (r : Reg8) (s : State) :
    exec (.aluOpd op (.reg r)) s = accOp op (s.cpu.reg r) 1 s := by
  cases op <;> cases r <;> rfl

theorem exec_aluMem (op : AluOp) (s : State) : exec (.aluOpd op .memHL) s = accOp op (s.read8 s.cpu.hl) 2 s := by
  cases op <;> rfl

theorem exec_aluImm (op : AluOp) (n : Byte) (s : State) : exec (.aluImm op n) s = accOp op n 2 s := by
  cases op <;> rfl

theorem exec_incReg (r : Reg8) (s : State) : exec (.inc8 (.reg r)) s = incReg r s := by
  cases r <;> rfl

theorem exec_incMem (s : State) : exec (.inc8 .memHL) s = incMem s := rfl

theorem exec_decReg (r : Reg8) (s : State) : exec (.dec8 (.reg r)) s = decReg r s := by
  cases r <;> rfl

theorem exec_decMem (s : State) : exec (.dec8 .memHL) s = decMem s := rfl

theorem exec_incPair (p : Reg16) (s : State) : exec (.incPair p) s = stepPair p 1 s := by
  cases p <;> rfl

theorem exec_decPair (p : Reg16) (s : State) : exec (.decPair p) s = stepPair p (-1) s := by
  cases p <;> rfl

theorem exec_addHLPair (p : Reg16) (s : State) : exec (.addHLPair p) s = addHL p s := by
  cases p <;> rfl

theorem exec_rot (op : RotOp) (o : Opd8) (s : State) : exec (.rot op o) s = rotOpd op o s := by
  rcases o with r | _ <;> cases op <;> first | rfl | (cases r <;> rfl)

theorem exec_bit (y : Fin 8) (o : Opd8) (s : State) : exec (.bit y o) s = bitOpd y o s := by
  rcases o with r | _ <;> fin_cases y <;> first | rfl | (cases r <;> rfl)

theorem exec_res (y : Fin 8) (o : Opd8) (s : State) : exec (.res y o) s = resOpd y o s := by
  rcases o with r | _ <;> fin_cases y <;> first | rfl | (cases r <;> rfl)

theorem exec_set (y : Fin 8) (o : Opd8) (s : State) : exec (.set y o) s = setOpd y o s := by
  rcases o with r | _ <;> fin_cases y <;> first | rfl | (cases r <;> rfl)

theorem exec_jpCond (k : Cond) (nn : Word) (s : State) : exec (.jpCond k nn) s = jumpIf k nn s := by
  cases k <;> rfl

theorem exec_jrCond (k : Cond) (e : Byte) (s : State) : exec (.jrCond k e) s = jumpRelIf k e s := by
  cases k <;> rfl

theorem exec_callCond (k : Cond) (nn : Word) (s : State) : exec (.callCond k nn) s = callIf k nn s := by
  cases k <;> rfl

theorem exec_retCond (k : Cond) (s : State) : exec (.retCond k) s = retIf k s := by
  cases k <;> rfl

theorem exec_rst (y : Fin 8) (s : State) : exec (.rst y) s = callTo (BitVec.ofNat 16 (8 * y.val)) 4 s := by
  fin_cases y <;> rfl

theorem exec_illegal (op : IllegalOp) (s : State) : exec (.illegal op) s = freezeStep s := by
  cases op <;> rfl

/-- The prefix row runs the instruction of the `CB` map that its second byte selects. -/
theorem exec_decodeCB (op2 : Byte) (s : State) : exec (decodeCB op2) s = execCB op2 s := by
  unfold decodeCB execCB
  generalize fieldX op2 = x
  match x with
  | 0 => exact exec_rot _ _ _
  | 1 => exact exec_bit _ _ _
  | 2 => exact exec_res _ _ _
  | _ + 3 => exact exec_set _ _ _

end Sys2Proof.Machine
end

