-- ==== Sys2Proof/Laws/Ops.lean ====
section
/-! SUPPORT. What each shared operation can do, said once: fetching and decoding, the stack, the interrupt entry, a
write of the bus, and how every next state of an instruction and of the step is built from the state before it. -/

set_option Elab.async false

namespace Sys2Proof.Machine

/-! Decoding and fetching. -/

theorem lengthOf_bounds (b : Byte) : 1 ≤ lengthOf b ∧ lengthOf b ≤ 3 := by
  unfold lengthOf
  split_ifs <;> omega

/-- Three bytes always hold a whole instruction. -/
theorem decode_three (b0 b1 b2 : Byte) (rest : List Byte) :
    decode (b0 :: b1 :: b2 :: rest) = .ok (decodeOp b0 b1 b2, lengthOf b0) := by
  have h : lengthOf b0 ≤ (b1 :: b2 :: rest).length + 1 := by
    have := (lengthOf_bounds b0).2
    simp only [List.length_cons]
    omega
  show (if lengthOf b0 ≤ (b1 :: b2 :: rest).length + 1 then _ else _) = _
  rw [if_pos h]
  rfl

/-- The fetch changes the CPU registers only. -/
theorem State.fetchInstr_eq (s : State) : ∃ c : Cpu, s.fetchInstr.2 = s.setCpu c := ⟨_, rfl⟩

theorem State.wake_of_running {s : State} (h : s.cpu.waiting = false) : s.wake = s := by
  unfold State.wake
  rw [h]
  rfl

/-! The stack. -/

/-- A push is two bus writes, high byte first, and the new `SP`. -/
theorem State.push16_eq (s : State) (v : Word) :
    s.push16 v = (((s.setSp (s.cpu.sp - 1)).write8 (s.cpu.sp - 1) (hi v)).write8 (s.cpu.sp - 2) (lo v)).setCpu
      { s.cpu with sp := s.cpu.sp - 2 } := by
  have h : s.cpu.sp - 1 - 1 = s.cpu.sp - 2 := by bv_omega
  unfold State.push16 State.pushByte State.setSp
  simp only [State.setCpu_cpu, h, State.write8_setCpu]

@[simp] theorem State.push16_cpu (s : State) (v : Word) :
    (s.push16 v).cpu = { s.cpu with sp := s.cpu.sp - 2 } := by
  rw [State.push16_eq]
  rfl

/-- What a dispatch leaves in the CPU registers (R315). -/
@[simp] theorem State.service_cpu (s : State) :
    s.service.cpu = { s.cpu.enter with sp := s.cpu.sp - 2, pc := vectorOf s.irq.first } := by
  unfold State.service State.jump
  simp only [State.setCpu_cpu, State.push16_cpu]
  rfl

/-! What a bus write does to the machine's own memory: byte writes at storage addresses. -/

theorem isStorage_of_wave {a : Word} (h : ioReg a = some .wave) : isStorage a.toNat = true := by
  unfold ioReg at h
  split at h
  · next hr =>
    have h1 : decide (0xFF30 ≤ a.toNat) = true := decide_eq_true hr.1
    have h2 : decide (a.toNat < 0xFF40) = true := decide_eq_true (by omega)
    simp [isStorage, h1, h2]
  · exfalso
    have hm : ∀ r ∈ ioTable, r.2 ≠ .wave := by decide
    generalize ioTable = t at h hm
    induction t with
    | nil => simp at h
    | cons r t ih =>
      obtain ⟨k, x⟩ := r
      rw [List.lookup_cons] at h
      split at h
      · injection h with h
        exact hm (k, x) (by simp) h
      · exact ih h (fun r hr => hm r (by simp [hr]))

theorem isStorage_of_bounds {n : Nat}
    (h : (0x8000 ≤ n ∧ n < 0xA000) ∨ (0xC000 ≤ n ∧ n < 0xE000) ∨ (0xFE00 ≤ n ∧ n < 0xFEA0) ∨
      (0xFF80 ≤ n ∧ n < 0xFFFF)) : isStorage n = true := by
  unfold isStorage
  rcases h with h | h | h | h <;> simp [h.1, h.2]

/-- Everything a bus write can do: nothing, one byte of the machine's own storage, the cartridge's control registers
or RAM, `IE`, or the reaction of a mapped location. -/
theorem State.write8_cases (s : State) (a : Word) (v : Byte) :
    s.write8 a v = s ∨ (∃ k, isStorage k = true ∧ s.write8 a v = s.poke k v) ∨ s.write8 a v = s.writeRomArea a v ∨
    s.write8 a v = s.setCart (s.cart.writeRam a.toNat v) ∨ s.write8 a v = s.setIrq (s.irq.writeIe v) ∨
    ∃ r, ioReg a = some r ∧ s.write8 a v = s.writeIo a r v := by
  have hpoke : ∀ k, isStorage k = true → ∃ k', isStorage k' = true ∧ s.poke k v = s.poke k' v :=
    fun k hk => ⟨k, hk, rfl⟩
  unfold State.write8
  rcases regionOf_cases a with ⟨hr, hb⟩ | ⟨hr, hb⟩ | ⟨hr, hb⟩ | ⟨hr, hb⟩ | ⟨hr, hb⟩ | ⟨hr, hb⟩ | ⟨hr, hb⟩ | ⟨hr, hb⟩ |
    ⟨hr, hb⟩ | ⟨hr, hb⟩ <;> rw [hr]
  · exact .inr (.inr (.inl rfl))
  · by_cases hl : s.ppu.vramLocked = true
    · exact .inl (if_pos hl)
    · exact .inr (.inl ⟨_, isStorage_of_bounds (by omega), if_neg hl⟩)
  · exact .inr (.inr (.inr (.inl rfl)))
  · exact .inr (.inl (hpoke _ (isStorage_of_bounds (by omega))))
  · exact .inr (.inl (hpoke _ (isStorage_of_bounds (by omega))))
  · by_cases hl : s.ppu.oamLocked = true
    · exact .inl (if_pos hl)
    · exact .inr (.inl ⟨_, isStorage_of_bounds (by omega), if_neg hl⟩)
  · exact .inl rfl
  · show s.writeIoPage a v = s ∨ _
    cases hio : ioReg a with
    | none =>
      left
      unfold State.writeIoPage
      rw [hio]
    | some r =>
      refine .inr (.inr (.inr (.inr (.inr ⟨r, rfl, ?_⟩))))
      show s.writeIoPage a v = _
      unfold State.writeIoPage
      rw [hio]
  · exact .inr (.inl (hpoke _ (isStorage_of_bounds (by omega))))
  · exact .inr (.inr (.inr (.inr (.inl rfl))))

/-- What holds of the memory before the OAM DMA loop, and is kept by byte writes at storage addresses, holds after. -/
theorem State.dmaLoop_mem {P : List Host.Cell → Prop}
    (hP : ∀ m k w, isStorage k = true → P m → P (Memory.write m k w)) (n i : Nat) (page : Byte) (s : State)
    (hn : i + n ≤ 160) (h : P s.mem) : P (State.dmaLoop n i page s).mem := by
  induction n generalizing i s with
  | zero => exact h
  | succ n ih =>
    refine ih (i + 1) _ (by omega) ?_
    exact hP _ _ _ (isStorage_of_bounds (by omega)) h

/-- A bus write reaches the memory only by byte writes at storage addresses. -/
theorem State.write8_mem {P : List Host.Cell → Prop}
    (hP : ∀ m k w, isStorage k = true → P m → P (Memory.write m k w)) (s : State) (a : Word) (v : Byte)
    (h : P s.mem) : P (s.write8 a v).mem := by
  rcases s.write8_cases a v with e | ⟨k, hk, e⟩ | e | e | e | ⟨r, hr, e⟩ <;> rw [e]
  · exact h
  · exact hP _ _ _ hk h
  · exact h
  · exact h
  · exact h
  · cases r
    case dma => exact State.dmaLoop_mem hP 160 0 v (s.setPpu { s.ppu with dma := v }) (by omega) h
    case wave => exact hP _ _ _ (isStorage_of_wave hr) h
    all_goals exact h

/-! How the next state of an instruction is built. -/

/-- `t` comes from `s` by writes of CPU registers, of the recorded cost and of the bus. -/
inductive Built (s : State) : State → Prop where
  | refl : Built s s
  | cpu {t : State} (c : Cpu) : Built s t → Built s (t.setCpu c)
  | cost {t : State} (n : Nat) : Built s t → Built s (t.cost n)
  | write {t : State} (a : Word) (v : Byte) : Built s t → Built s (t.write8 a v)

/-- What the three kinds of write keep, every state built by them has. -/
theorem Built.keeps {P : State → Prop} {s t : State} (hb : Built s t) (hc : ∀ u c, P u → P (u.setCpu c))
    (hn : ∀ u n, P u → P (u.cost n)) (hw : ∀ u a v, P u → P (u.write8 a v)) (h : P s) : P t := by
  induction hb with
  | refl => exact h
  | cpu c _ ih => exact hc _ c ih
  | cost n _ ih => exact hn _ n ih
  | write a v _ ih => exact hw _ a v ih

theorem Built.trans {s t u : State} (h : Built t u) (g : Built s t) : Built s u :=
  h.keeps (fun _ c => .cpu c) (fun _ n => .cost n) (fun _ a v => .write a v) g

/-- The outcome is a next state built from `s`. -/
def BuiltBy (s : State) (r : Result) : Prop := ∃ t, r = .next t ∧ Built s t

theorem built_cpu (c : Cpu) (n : Nat) (s : State) : BuiltBy s (.next ((s.setCpu c).cost n)) :=
  ⟨_, rfl, .cost _ (.cpu _ .refl)⟩

theorem built_cpu2 (c d : Cpu) (n : Nat) (s : State) : BuiltBy s (.next (((s.setCpu c).setCpu d).cost n)) :=
  ⟨_, rfl, .cost _ (.cpu _ (.cpu _ .refl))⟩

theorem built_cost (n : Nat) (s : State) : BuiltBy s (.next (s.cost n)) := ⟨_, rfl, .cost _ .refl⟩

theorem built_write (a : Word) (v : Byte) (n : Nat) (s : State) : BuiltBy s (.next ((s.write8 a v).cost n)) :=
  ⟨_, rfl, .cost _ (.write _ _ .refl)⟩

theorem built_writeCpu (a : Word) (v : Byte) (c : Cpu) (n : Nat) (s : State) :
    BuiltBy s (.next (((s.write8 a v).setCpu c).cost n)) :=
  ⟨_, rfl, .cost _ (.cpu _ (.write _ _ .refl))⟩

theorem State.built_writeOpd (o : Opd8) (v : Byte) (s : State) : Built s (s.writeOpd o v) := by
  cases o with
  | reg r => exact .cpu _ .refl
  | memHL => exact .write _ _ .refl

theorem State.built_push16 (v : Word) (s : State) : Built s (s.push16 v) :=
  .write _ _ (.cpu _ (.write _ _ (.cpu _ .refl)))

theorem State.built_call (a : Word) (s : State) : Built s (s.call a) := .cpu _ (s.built_push16 _)

theorem State.built_returnFrom (s : State) : Built s s.returnFrom := .cpu _ (.cpu _ .refl)

theorem built_rotOpd (op : RotOp) (o : Opd8) (s : State) : BuiltBy s (rotOpd op o s) :=
  ⟨_, rfl, .cost _ (.cpu _ (s.built_writeOpd o _))⟩

theorem built_resOpd (y : Fin 8) (o : Opd8) (s : State) : BuiltBy s (resOpd y o s) :=
  ⟨_, rfl, .cost _ (s.built_writeOpd o _)⟩

theorem built_setOpd (y : Fin 8) (o : Opd8) (s : State) : BuiltBy s (setOpd y o s) :=
  ⟨_, rfl, .cost _ (s.built_writeOpd o _)⟩

theorem built_pushPair (p : StackReg) (s : State) : BuiltBy s (pushPair p s) := ⟨_, rfl, .cost _ (s.built_push16 _)⟩

theorem built_callTo (a : Word) (n : Nat) (s : State) : BuiltBy s (callTo a n s) := ⟨_, rfl, .cost _ (s.built_call a)⟩

theorem built_jumpIf (k : Cond) (nn : Word) (s : State) : BuiltBy s (jumpIf k nn s) := by
  unfold jumpIf
  split
  · exact built_cpu _ _ s
  · exact built_cost _ s

theorem built_jumpRelIf (k : Cond) (e : Byte) (s : State) : BuiltBy s (jumpRelIf k e s) := by
  unfold jumpRelIf
  split
  · exact built_cpu _ _ s
  · exact built_cost _ s

theorem built_callIf (k : Cond) (nn : Word) (s : State) : BuiltBy s (callIf k nn s) := by
  unfold callIf
  split
  · exact ⟨_, rfl, .cost _ (s.built_call nn)⟩
  · exact built_cost _ s

theorem built_retIf (k : Cond) (s : State) : BuiltBy s (retIf k s) := by
  unfold retIf
  split
  · exact ⟨_, rfl, .cost _ s.built_returnFrom⟩
  · exact built_cost _ s

theorem built_execCB (op2 : Byte) (s : State) : BuiltBy s (execCB op2 s) := by
  unfold execCB
  split
  · exact built_rotOpd _ _ s
  · exact built_cpu _ _ s
  · exact built_resOpd _ _ s
  · exact built_setOpd _ _ s

theorem built_prefixCB (s : State) : BuiltBy s (execPrefixCB s) := by
  obtain ⟨t, h, hb⟩ := built_execCB (s.read8 s.cpu.pc) (s.setCpu s.cpu.afterFetch)
  exact ⟨t, h, hb.trans (.cpu _ .refl)⟩

/-- Every instruction answers a next state that is built from the state before it. -/
theorem exec_built (i : Instr) (s : State) : BuiltBy s (exec i s) := by
  cases i
  case nop => exact built_cost _ s
  case ldBCImm16 | incBC | incB | decB | ldBImm8 | rlca | ldAMemBC | decBC | incC | decC | ldCImm8 | rrca | stop
      | ldDEImm16 | incDE | incD | decD | ldDImm8 | rla | jrRel | ldAMemDE | decDE | incE | decE | ldEImm8 | rra
      | ldHLImm16 | incHL | incH | decH | ldHImm8 | daa | ldAMemHLInc | decHL | incL | decL | ldLImm8 | cpl
      | ldSPImm16 | incSP | scf | ldAMemHLDec | decSP | incA | decA | ldAImm8 | ccf | ldBB | ldBC | ldBD | ldBE
      | ldBH | ldBL | ldBMemHL | ldBA | ldCB | ldCC | ldCD | ldCE | ldCH | ldCL | ldCMemHL | ldCA | ldDB | ldDC
      | ldDD | ldDE | ldDH | ldDL | ldDMemHL | ldDA | ldEB | ldEC | ldED | ldEE | ldEH | ldEL | ldEMemHL | ldEA
      | ldHB | ldHC | ldHD | ldHE | ldHH | ldHL | ldHMemHL | ldHA | ldLB | ldLC | ldLD | ldLE | ldLH | ldLL
      | ldLMemHL | ldLA | halt | ldAB | ldAC | ldAD | ldAE | ldAH | ldAL | ldAMemHL | ldAA | addAB | addAC
      | addAD | addAE | addAH | addAL | addAMemHL | addAA | adcAB | adcAC | adcAD | adcAE | adcAH | adcAL
      | adcAMemHL | adcAA | subB | subC | subD | subE | subH | subL | subMemHL | subA | sbcAB | sbcAC | sbcAD
      | sbcAE | sbcAH | sbcAL | sbcAMemHL | sbcAA | andB | andC | andD | andE | andH | andL | andMemHL | andA
      | xorB | xorC | xorD | xorE | xorH | xorL | xorMemHL | xorA | orB | orC | orD | orE | orH | orL | orMemHL
      | orA | cpB | cpC | cpD | cpE | cpH | cpL | cpMemHL | cpA | jpImm16 | addAImm8 | adcAImm8 | illegalD3
      | subImm8 | illegalDB | illegalDD | sbcAImm8 | illegalE3 | illegalE4 | andImm8 | jpHL | illegalEB
      | illegalEC | illegalED | xorImm8 | ldhAMemImm8 | ldhAMemC | di | illegalF4 | orImm8 | ldSPHL
      | ldAMemImm16 | ei | illegalFC | illegalFD | cpImm8 | bit0B | bit0C | bit0D | bit0E | bit0H | bit0L
      | bit0MemHL | bit0A | bit1B | bit1C | bit1D | bit1E | bit1H | bit1L | bit1MemHL | bit1A | bit2B | bit2C
      | bit2D | bit2E | bit2H | bit2L | bit2MemHL | bit2A | bit3B | bit3C | bit3D | bit3E | bit3H | bit3L
      | bit3MemHL | bit3A | bit4B | bit4C | bit4D | bit4E | bit4H | bit4L | bit4MemHL | bit4A | bit5B | bit5C
      | bit5D | bit5E | bit5H | bit5L | bit5MemHL | bit5A | bit6B | bit6C | bit6D | bit6E | bit6H | bit6L
      | bit6MemHL | bit6A | bit7B | bit7C | bit7D | bit7E | bit7H | bit7L | bit7MemHL | bit7A => exact built_cpu _ _ s
  case ldMemBCA | ldMemDEA | ldMemHLImm8 | ldMemHLB | ldMemHLC | ldMemHLD | ldMemHLE | ldMemHLH | ldMemHLL
      | ldMemHLA | ldhMemImm8A | ldhMemCA | ldMemImm16A => exact built_write _ _ _ s
  case ldMemImm16SP => exact ⟨_, rfl, .cost _ (.write _ _ (.write _ _ .refl))⟩
  case addHLBC | addHLDE | addHLHL | addHLSP | popBC | popDE | popHL | addSPRel | popAF | ldHLSPRel => exact built_cpu2 _ _ _ s
  case jrNZRel | jrZRel | jrNCRel | jrCRel => exact built_jumpRelIf _ _ s
  case ldMemHLIncA | ldMemHLDecA | incMemHL | decMemHL => exact built_writeCpu _ _ _ _ s
  case retNZ | retZ | retNC | retC => exact built_retIf _ s
  case jpNZImm16 | jpZImm16 | jpNCImm16 | jpCImm16 => exact built_jumpIf _ _ s
  case callNZImm16 | callZImm16 | callNCImm16 | callCImm16 => exact built_callIf _ _ s
  case pushBC | pushDE | pushHL | pushAF => exact built_pushPair _ s
  case rst00 | callImm16 | rst08 | rst10 | rst18 | rst20 | rst28 | rst30 | rst38 => exact built_callTo _ _ s
  case ret => exact ⟨_, rfl, .cost _ s.built_returnFrom⟩
  case prefixCB => exact built_prefixCB s
  case reti => exact ⟨_, rfl, .cost _ (.cpu _ s.built_returnFrom)⟩
  case rlcB | rlcC | rlcD | rlcE | rlcH | rlcL | rlcMemHL | rlcA | rrcB | rrcC | rrcD | rrcE | rrcH | rrcL
      | rrcMemHL | rrcA | rlB | rlC | rlD | rlE | rlH | rlL | rlMemHL | rlA | rrB | rrC | rrD | rrE | rrH | rrL
      | rrMemHL | rrA | slaB | slaC | slaD | slaE | slaH | slaL | slaMemHL | slaA | sraB | sraC | sraD | sraE
      | sraH | sraL | sraMemHL | sraA | swapB | swapC | swapD | swapE | swapH | swapL | swapMemHL | swapA | srlB
      | srlC | srlD | srlE | srlH | srlL | srlMemHL | srlA => exact built_rotOpd _ _ s
  case res0B | res0C | res0D | res0E | res0H | res0L | res0MemHL | res0A | res1B | res1C | res1D | res1E | res1H
      | res1L | res1MemHL | res1A | res2B | res2C | res2D | res2E | res2H | res2L | res2MemHL | res2A | res3B
      | res3C | res3D | res3E | res3H | res3L | res3MemHL | res3A | res4B | res4C | res4D | res4E | res4H
      | res4L | res4MemHL | res4A | res5B | res5C | res5D | res5E | res5H | res5L | res5MemHL | res5A | res6B
      | res6C | res6D | res6E | res6H | res6L | res6MemHL | res6A | res7B | res7C | res7D | res7E | res7H
      | res7L | res7MemHL | res7A => exact built_resOpd _ _ s
  case set0B | set0C | set0D | set0E | set0H | set0L | set0MemHL | set0A | set1B | set1C | set1D | set1E | set1H
      | set1L | set1MemHL | set1A | set2B | set2C | set2D | set2E | set2H | set2L | set2MemHL | set2A | set3B
      | set3C | set3D | set3E | set3H | set3L | set3MemHL | set3A | set4B | set4C | set4D | set4E | set4H
      | set4L | set4MemHL | set4A | set5B | set5C | set5D | set5E | set5H | set5L | set5MemHL | set5A | set6B
      | set6C | set6D | set6E | set6H | set6L | set6MemHL | set6A | set7B | set7C | set7D | set7E | set7H
      | set7L | set7MemHL | set7A => exact built_setOpd _ _ s

/-! How the next state of the step is built. -/

/-- What every four t-cycles keep, `Tick(4n)` keeps. -/
theorem State.tick4_keeps {P : State → Prop} (h : ∀ u, P u → P (State.tick 4 u)) (n : Nat) (s : State) (hs : P s) :
    P (State.tick (4 * n) s) := by
  induction n generalizing s with
  | zero => exact hs
  | succ n ih =>
    rw [show 4 * (n + 1) = 4 + 4 * n by omega, State.tick_add]
    exact ih _ (h s hs)

/-- What is kept by a write of the CPU registers, of the recorded cost, of `IE` and `IF`, by a bus write and by four
t-cycles of the devices is kept by every step. -/
theorem step_keeps {P : State → Prop} (hc : ∀ u c, P u → P (u.setCpu c)) (hn : ∀ u n, P u → P (u.cost n))
    (hi : ∀ u q, P u → P (u.setIrq q)) (hw : ∀ u a v, P u → P (u.write8 a v)) (ht : ∀ u, P u → P (State.tick 4 u))
    {s t : State} (hs : P s) (h : step s = .next t) : P t := by
  have hservice : ∀ u, P u → P u.service := fun u hu =>
    hc _ _ ((State.built_push16 _ _).keeps hc hn hw (hc _ _ (hi _ _ hu)))
  have hfinish : ∀ arm u, P u → P (State.finish arm u) := by
    intro arm u hu
    have h1 : P ((u.cost 0).commitEi arm) := by
      unfold State.commitEi
      split
      · exact hc _ _ (hn _ _ hu)
      · exact hn _ _ hu
    have h2 := State.tick4_keeps ht u.cycles _ h1
    unfold State.finish State.interruptCheck
    split
    · exact State.tick4_keeps ht 5 _ (hservice _ h2)
    · exact h2
  have hwake : P s.wake := by
    unfold State.wake
    split
    · exact hc _ _ hs
    · exact hs
  unfold step at h
  split at h
  · injection h with h
    exact h ▸ hs
  · unfold State.execute at h
    split at h
    · injection h with h
      exact h ▸ hfinish _ _ (hn _ _ hwake)
    · obtain ⟨u, hu, hb⟩ := exec_built s.wake.fetchInstr.1 s.wake.fetchInstr.2
      rw [hu] at h
      injection h with h
      exact h ▸ hfinish _ _ (hb.keeps hc hn hw (hc _ _ (hc _ _ hwake)))

end Sys2Proof.Machine
end

