-- ==== Sys2Proof/Laws/Play.lean ====
section
/-! SUPPORT. What the buttons and a run of frames can do: a property that each step, `set_buttons` and the clearing of
`frame_done` keep holds of the state after every frame of the run. -/

set_option Elab.async false

namespace Sys2Proof.Machine

/-! `set_buttons` changes the joypad registers and the requests, nothing else. -/

@[simp] theorem State.setButtons_buttons (s : State) (m : Byte) : (s.setButtons m).joypad.buttons = m := rfl
@[simp] theorem State.setButtons_select (s : State) (m : Byte) :
    (s.setButtons m).joypad.select = s.joypad.select := rfl
@[simp] theorem State.setButtons_ie (s : State) (m : Byte) : (s.setButtons m).irq.ie = s.irq.ie := rfl
@[simp] theorem State.setButtons_cpu (s : State) (m : Byte) : (s.setButtons m).cpu = s.cpu := rfl
@[simp] theorem State.setButtons_mem (s : State) (m : Byte) : (s.setButtons m).mem = s.mem := rfl
@[simp] theorem State.setButtons_cart (s : State) (m : Byte) : (s.setButtons m).cart = s.cart := rfl
@[simp] theorem State.setButtons_timer (s : State) (m : Byte) : (s.setButtons m).timer = s.timer := rfl
@[simp] theorem State.setButtons_serial (s : State) (m : Byte) : (s.setButtons m).serial = s.serial := rfl
@[simp] theorem State.setButtons_ppu (s : State) (m : Byte) : (s.setButtons m).ppu = s.ppu := rfl
@[simp] theorem State.setButtons_apu (s : State) (m : Byte) : (s.setButtons m).apu = s.apu := rfl
@[simp] theorem State.setButtons_cycles (s : State) (m : Byte) : (s.setButtons m).cycles = s.cycles := rfl
@[simp] theorem State.setButtons_draws (s : State) (m : Byte) : (s.setButtons m).draws = s.draws := rfl

/-- An outcome mapped by `onNext` is a next state exactly of a next state. -/
theorem onNext_next {α β : Type} {f : α → β} {r : Host.Outcome α Fault Refusal} {b : β} (h : onNext f r = .next b) :
    ∃ a, r = .next a ∧ f a = b := by
  cases r with
  | next a =>
    injection h with h
    exact ⟨a, rfl, h⟩
  | fault e => cases h
  | refused e => cases h

/-- What every step keeps, the loop of a frame keeps. -/
theorem State.runFrame_keeps {P : State → Prop} (hstep : ∀ u v, P u → step u = .next v → P v) {n : Nat} {s : State}
    {f : Frame} (hs : P s) (h : s.runFrame n = .next f) : P f.state := by
  induction n generalizing s f with
  | zero =>
    injection h with h
    exact h ▸ hs
  | succ n ih =>
    unfold State.runFrame at h
    split at h
    · next t ht =>
      split at h
      · injection h with h
        exact h ▸ hstep s t hs ht
      · obtain ⟨g, hg, rfl⟩ := onNext_next h
        exact ih (f := g) (hstep s t hs ht) hg
    · cases h
    · cases h

/-- What every step and the clearing of `frame_done` keep, `step_frame` keeps. -/
theorem State.stepFrame_keeps {P : State → Prop} (hstep : ∀ u v, P u → step u = .next v → P v)
    (hclear : ∀ u, P u → P (u.setPpu { u.ppu with frameDone := false })) {bound : Nat} {s : State} {f : Frame}
    (hs : P s) (h : s.stepFrame bound = .next f) : P f.state := by
  unfold State.stepFrame at h
  split at h
  · injection h with h
    exact h ▸ hs
  · exact State.runFrame_keeps hstep (hclear s hs) h

/-- A run of at least one frame: the first mask, the first frame, and the run that goes on from its state. -/
theorem State.play_cons {bound : Nat} {mask : Byte} {masks : List Byte} {s : State} {fs : List Frame}
    (h : s.play bound (mask :: masks) = .next fs) :
    ∃ f gs, (s.setButtons mask).stepFrame bound = .next f ∧ f.state.play bound masks = .next gs ∧ fs = f :: gs := by
  unfold State.play at h
  split at h
  · next f hf =>
    obtain ⟨gs, hg, rfl⟩ := onNext_next h
    exact ⟨f, gs, hf, hg, rfl⟩
  · cases h
  · cases h

/-- One frame for each mask. -/
theorem State.play_length {bound : Nat} {masks : List Byte} {s : State} {fs : List Frame}
    (h : s.play bound masks = .next fs) : fs.length = masks.length := by
  induction masks generalizing s fs with
  | nil =>
    injection h with h
    exact h ▸ rfl
  | cons mask masks ih =>
    obtain ⟨f, gs, -, hg, rfl⟩ := State.play_cons h
    exact congrArg (· + 1) (ih hg)

/-- What every step, the clearing of `frame_done` and every press and release keep holds after every frame of a run. -/
theorem State.play_keeps {P : State → Prop} (hstep : ∀ u v, P u → step u = .next v → P v)
    (hclear : ∀ u, P u → P (u.setPpu { u.ppu with frameDone := false })) (hset : ∀ u m, P u → P (u.setButtons m))
    {bound : Nat} {masks : List Byte} {s : State} {fs : List Frame} (hs : P s)
    (h : s.play bound masks = .next fs) : ∀ f ∈ fs, P f.state := by
  induction masks generalizing s fs with
  | nil =>
    injection h with h
    subst h
    intro f hf
    cases hf
  | cons mask masks ih =>
    obtain ⟨f, gs, hf, hg, rfl⟩ := State.play_cons h
    have h1 : P f.state := State.stepFrame_keeps hstep hclear (hset s mask hs) hf
    intro g hgm
    rcases List.mem_cons.mp hgm with rfl | hgm
    · exact h1
    · exact ih h1 hg g hgm

end Sys2Proof.Machine
end

