-- ==== Sys2Proof/Laws/Sound.lean ====
section
/-! SUPPORT. What the sound of a frame can be: one sample for each t-cycle of the call. -/

set_option Elab.async false

namespace Sys2Proof.Machine

theorem State.tickAudio_length (n : Nat) (s : State) : (State.tickAudio n s).length = n := by
  induction n generalizing s with
  | zero => rfl
  | succ n ih => exact congrArg (· + 1) (ih s.tick1)

/-- The sample number `k` of a tick is `AudioOut` after its t-cycle `k + 1`. -/
theorem State.tickAudio_get (n k : Nat) (s : State) (h : k < n) :
    (State.tickAudio n s)[k]? = some (State.tick (k + 1) s).apu.audioOut := by
  induction n generalizing k s with
  | zero => omega
  | succ n ih =>
    cases k with
    | zero => rfl
    | succ k => exact ih k s.tick1 (by omega)

/-- The sound of the rest of a step: four samples for each m-cycle of the instruction, twenty for a dispatch. -/
theorem State.finishAudio_length (arm : Bool) (s : State) : (s.finishAudio arm).length =
    4 * s.cycles + if (State.tick (4 * s.cycles) ((s.cost 0).commitEi arm)).dispatches then 20 else 0 := by
  unfold State.finishAudio
  rw [List.length_append, State.tickAudio_length]
  split
  · rw [State.tickAudio_length]
  · rfl

/-- The sound of a step is that of the outcome of its instruction. -/
theorem State.stepAudio_eq {s t : State} (hf : s.cpu.frozen = false) (h : s.wake.execute = .next t) :
    s.stepAudio = t.finishAudio s.cpu.eiPending := by
  unfold State.stepAudio
  rw [hf, h]
  rfl

theorem State.stepFrame_of_frozen (bound : Nat) {s : State} (h : s.cpu.frozen = true) :
    s.stepFrame bound = .next ⟨s, []⟩ := if_pos h

end Sys2Proof.Machine
end

