-- ==== Sys2Proof/Tests/Slice0.lean ====
section
/-! SUPPORT. Tests of the model, each about one step or one operation on a small state. The expected values come from
spec/95_test_vectors.md (the vector's name stands above the test) or from the spec's encodings; none was taken from the
model. After the tests stand the witnesses: for each statement with hypotheses, concrete values that meet them. -/

set_option Elab.async false

namespace Sys2Proof.Tests

open Sys2Proof Sys2Proof.Machine

/-! Small states. -/

/-- The vectors' start state: reset with `PC = C000`, `IF = 00`, the bytes at `C000`, and `f` applied to the CPU. -/
def code (bs : List Byte) (f : Cpu → Cpu := id) : State :=
  { State.cold Config.sysclkReset Cart.blank with
    cpu := f { Cpu.cold with pc := 0xC000 }
    irq := ⟨0, 0⟩
    mem := Memory.ofBytes 0xC000 bs }

/-- The accumulator and `F`. -/
def accF (a f : Byte) (c : Cpu) : Cpu := Cpu.setF { c with a := a } f

/-- `s` with `IE` and `IF`. -/
def irqs (ie iflag : BitVec 5) (s : State) : State := s.setIrq ⟨ie, iflag⟩

/-- `s` with one more byte of memory. -/
def byte (a : Word) (v : Byte) (s : State) : State := s.poke a.toNat v

/-- The state after one step. -/
def after (s : State) : State :=
  match step s with
  | .next t => t
  | _ => s

/-- How many t-cycles the devices have ticked since reset. -/
def elapsed (s : State) : Nat := (s.timer.sysclk - 0xABCC).toNat

/-- The cold state with the timer as given and `IF = 00`. -/
def timer (sysclk : BitVec 16) (tima tma : Byte) (tac : BitVec 3) : State :=
  { State.cold Config.sysclkReset Cart.blank with timer := ⟨sysclk, tima, tma, tac, 0⟩, irq := ⟨0, 0⟩ }

/-- The cold state with a cartridge of the kind given, with RAM, and with each bank's number at its offset 0. -/
def cart (k : MbcKind) (banks : Nat) : State :=
  State.cold Config.sysclkReset { Cart.blank with
    kind := k
    romBanks := banks
    ramSize := 0x8000
    hasRtc := true
    rom := (List.range banks).map (fun b => (b * 0x4000, BitVec.ofNat 8 b)) }

/-- A list of bus writes, value and address. -/
def writes (s : State) (l : List (Byte × Word)) : State := l.foldl (fun s c => s.write8 c.2 c.1) s

/-! Well-formedness and decoding. -/

theorem test_prefix_is_no_instruction : wellFormed .prefixCB = false := rfl

theorem test_nop_is_an_instruction : wellFormed .nop = true := rfl

/-- `01` dst `B`, src `C` (30_encoding.md R106). -/
theorem test_decode_ld : decode [0b01000001] = .ok (.ldBC, 1) := rfl

/-- `00` dst `(HL)` `110`, then `n` (R105). -/
theorem test_decode_ldImm : decode [0b00110110, 0b01000010] = .ok (.ldMemHLImm8 0x42, 2) := rfl

/-- `00` pair `HL` `0001`, then `nn`, low byte first (R105, R103). -/
theorem test_decode_ld16 : decode [0b00100001, 0b00110100, 0b00010010] = .ok (.ldHLImm16 0x1234, 3) := rfl

/-- `10` `ADC` `E` (R107). -/
theorem test_decode_alu : decode [0b10001011] = .ok (.adcAE, 1) := rfl

/-- `11101000`, then `e` (R108). -/
theorem test_decode_addSP : decode [0b11101000, 0b11111110] = .ok (.addSPRel 0xFE, 2) := rfl

/-- `CB`, then `00` `SWAP` `A` (R110). -/
theorem test_decode_rot : decode [0b11001011, 0b00110111] = .ok (.swapA, 2) := rfl

/-- `CB`, then `01` bit 7 `(HL)` (R110). -/
theorem test_decode_bit : decode [0b11001011, 0b01111110] = .ok (.bit7MemHL, 2) := rfl

/-- `CB`, then `10` bit 3 `D`, and `11` bit 0 `L` (R110). -/
theorem test_decode_res_set :
    decode [0b11001011, 0b10011010] = .ok (.res3D, 2) ∧ decode [0b11001011, 0b11000101] = .ok (.set0L, 2) := ⟨rfl, rfl⟩

/-- `110` condition `NC` `100`, then `nn` (R108). -/
theorem test_decode_call : decode [0b11010100, 0x00, 0x40] = .ok (.callNCImm16 0x4000, 3) := rfl

/-- `001` condition `C` `000`, then `e` (R105). -/
theorem test_decode_jr : decode [0b00111000, 0xFE] = .ok (.jrCRel 0xFE, 2) := rfl

/-- `01110110` is `HALT`, not a load (R106). -/
theorem test_decode_halt : decode [0b01110110] = .ok (.halt, 1) := rfl

/-- `11` `AF` `0001` (R108). -/
theorem test_decode_pop : decode [0b11110001] = .ok (.popAF, 1) := rfl

/-- `DD` is one of the undefined opcodes (R111). -/
theorem test_decode_illegal : decode [0b11011101] = .ok (.illegalDD, 1) := rfl

/-- Missing bytes are named, not guessed. -/
theorem test_decode_truncated : decode [0x21, 0x34] = .error (.truncated 0x21) := rfl

theorem test_table_word_is_little_endian : decodeTableWord 24 0x123421 = some (.ldHLImm16 0x1234) := rfl

theorem test_table_word_cb : decodeTableWord 16 0xCB37 = some .swapA := rfl

theorem test_fetch_word_runs : (after (State.reset.withFetchWord 16 0x423E)).cpu.a = 0x42 := by decide +kernel

/-! 8-bit loads. -/

/-- V-LD-1. -/
theorem test_ld_r_r : let t := after (code [0x78] (fun c => { c with b := 0x12 }))
    t.cpu.a = 0x12 ∧ t.cpu.pc = 0xC001 ∧ elapsed t = 4 := by decide +kernel

/-- V-LD-4. -/
theorem test_ld_hl_n : let t := after (code [0x36, 0x99] (fun c => { c with h := 0xC1, l := 0x00 }))
    t.read8 0xC100 = 0x99 ∧ t.cpu.pc = 0xC002 ∧ elapsed t = 12 := by decide +kernel

/-- V-LD-5. -/
theorem test_ld_hli_a_wraps : let t := after (code [0x22] (fun c => { c with a := 0x11, h := 0xFF, l := 0xFF }))
    t.irq.ie = 0x11 ∧ t.cpu.hl = 0x0000 := by decide +kernel

/-- V-LD-6. -/
theorem test_ld_a_hld_wraps : let t := after (code [0x3A] (fun c => { c with h := 0x00, l := 0x00 }))
    t.cpu.a = 0x00 ∧ t.cpu.hl = 0xFFFF := by decide +kernel

/-- V-LD-7. -/
theorem test_ldh_c_a : (after (code [0xE2] (fun c => { c with a := 0x42, c := 0x80 }))).read8 0xFF80 = 0x42 := by
  decide +kernel

/-- V-LD-8. -/
theorem test_ldh_a_n : let t := after (byte 0xFF90 0x33 (code [0xF0, 0x90]))
    t.cpu.a = 0x33 ∧ elapsed t = 12 := by decide +kernel

/-- V-LD-10. -/
theorem test_ld_nn_a : let t := after (code [0xEA, 0x34, 0xC2] (fun c => { c with a := 0x9C }))
    t.read8 0xC234 = 0x9C ∧ t.cpu.pc = 0xC003 ∧ elapsed t = 16 := by decide +kernel

/-- V-LD-14. -/
theorem test_echo : let t := after (code [0xEA, 0x00, 0xE1] (fun c => { c with a := 0x5A }))
    t.read8 0xC100 = 0x5A ∧ t.read8 0xE100 = 0x5A := by decide +kernel

/-- V-LD-15. -/
theorem test_unusable : (after (code [0xFA, 0xA0, 0xFE] (fun c => { c with a := 0x00 }))).cpu.a = 0xFF := by
  decide +kernel

/-- V-LD-16. -/
theorem test_ly_is_read_only :
    (after (code [0x70] (fun c => { c with b := 0x55, h := 0xFF, l := 0x44 }))).ppu.ly = 0 := by decide +kernel

/-! 16-bit loads and the stack. -/

/-- V-L16-3. -/
theorem test_ld_nn_sp : let t := after (code [0x08, 0x00, 0xC1] (fun c => { c with sp := 0xFFF8 }))
    t.read8 0xC100 = 0xF8 ∧ t.read8 0xC101 = 0xFF ∧ elapsed t = 20 := by decide +kernel

/-- V-L16-5. -/
theorem test_push : let t := after (code [0xC5] (fun c => { c with b := 0x12, c := 0x34, sp := 0xD000 }))
    t.cpu.sp = 0xCFFE ∧ t.read8 0xCFFF = 0x12 ∧ t.read8 0xCFFE = 0x34 := by decide +kernel

/-- V-L16-6. -/
theorem test_pop_af : let t := after (byte 0xCFFE 0xFF (byte 0xCFFF 0x12 (code [0xF1] (fun c => { c with sp := 0xCFFE }))))
    t.cpu.a = 0x12 ∧ t.cpu.f = 0xF0 ∧ t.cpu.sp = 0xD000 := by decide +kernel

/-- V-L16-7. -/
theorem test_push_into_ie : let t := after (code [0xF5] (fun c => { accF 0x12 0xF0 c with sp := 0x0001 }))
    t.cpu.sp = 0xFFFF ∧ t.irq.ie = 0x10 := by decide +kernel

/-- V-L16-9. -/
theorem test_ld_hl_sp_e : let t := after (code [0xF8, 0x01] (fun c => { accF 0x01 0xF0 c with sp := 0x00FF }))
    t.cpu.hl = 0x0100 ∧ t.cpu.f = 0x30 := by decide +kernel

/-- V-L16-10. -/
theorem test_ld_hl_sp_minus : let t := after (code [0xF8, 0xFF] (fun c => { accF 0x01 0xF0 c with sp := 0x0000 }))
    t.cpu.hl = 0xFFFF ∧ t.cpu.f = 0x00 := by decide +kernel

/-! 8-bit arithmetic and logic. -/

/-- V-ADD-3. -/
theorem test_add_wraps : let t := after (code [0xC6, 0x01] (accF 0xFF 0x00))
    t.cpu.a = 0x00 ∧ t.cpu.f = 0xB0 := by decide +kernel

/-- V-ADD-7. -/
theorem test_add_a_a : let t := after (code [0x87] (accF 0x80 0x00))
    t.cpu.a = 0x00 ∧ t.cpu.f = 0x90 := by decide +kernel

/-- V-ADC-3. -/
theorem test_adc_carry : let t := after (code [0xCE, 0xFF] (accF 0xFF 0x10))
    t.cpu.a = 0xFF ∧ t.cpu.f = 0x30 := by decide +kernel

/-- V-SUB-5. -/
theorem test_sub_borrow : let t := after (code [0xD6, 0xF0] (accF 0x0F 0x00))
    t.cpu.a = 0x1F ∧ t.cpu.f = 0x50 := by decide +kernel

/-- V-SBC-2. -/
theorem test_sbc_zero_with_borrows : let t := after (code [0xDE, 0xFF] (accF 0x00 0x10))
    t.cpu.a = 0x00 ∧ t.cpu.f = 0xF0 := by decide +kernel

/-- V-SBC-3. -/
theorem test_sbc_half_borrow : let t := after (code [0xDE, 0x0F] (accF 0x10 0x10))
    t.cpu.a = 0x00 ∧ t.cpu.f = 0xE0 := by decide +kernel

/-- V-AND-1. -/
theorem test_and : let t := after (code [0xE6, 0x0F] (accF 0xF0 0xF0))
    t.cpu.a = 0x00 ∧ t.cpu.f = 0xA0 := by decide +kernel

/-- V-XOR-2. -/
theorem test_xor : let t := after (code [0xEE, 0x55] (accF 0xAA 0x10))
    t.cpu.a = 0xFF ∧ t.cpu.f = 0x00 := by decide +kernel

/-- V-OR-2. -/
theorem test_or : let t := after (code [0xF6, 0x01] (accF 0x80 0x10))
    t.cpu.a = 0x81 ∧ t.cpu.f = 0x00 := by decide +kernel

/-- V-CP-2. -/
theorem test_cp : let t := after (code [0xFE, 0x2F] (accF 0x3C 0x00))
    t.cpu.a = 0x3C ∧ t.cpu.f = 0x60 := by decide +kernel

/-- V-INC-5. -/
theorem test_inc_hl : let t := after (byte 0xC100 0xFF (code [0x34] (fun c => { accF 0x01 0x10 c with h := 0xC1, l := 0 })))
    t.read8 0xC100 = 0x00 ∧ t.cpu.f = 0xB0 ∧ elapsed t = 12 := by decide +kernel

/-- V-DEC-4. -/
theorem test_dec_half_borrow : let t := after (code [0x3D] (accF 0x80 0xB0))
    t.cpu.a = 0x7F ∧ t.cpu.f = 0x70 := by decide +kernel

/-- V-DAA-3. -/
theorem test_daa_both : let t := after (code [0x27] (accF 0x9A 0x00))
    t.cpu.a = 0x00 ∧ t.cpu.f = 0x90 := by decide +kernel

/-- V-DAA-15. -/
theorem test_daa_subtract : let t := after (code [0x27] (accF 0x9A 0x70))
    t.cpu.a = 0x34 ∧ t.cpu.f = 0x50 := by decide +kernel

/-- V-CPL-1. -/
theorem test_cpl : let t := after (code [0x2F] (accF 0x35 0x00))
    t.cpu.a = 0xCA ∧ t.cpu.f = 0x60 := by decide +kernel

/-- V-SCF-1, V-CCF-1. -/
theorem test_scf_ccf :
    (after (code [0x37] (accF 0x01 0xE0))).cpu.f = 0x90 ∧ (after (code [0x3F] (accF 0x01 0xF0))).cpu.f = 0x80 := by
  decide +kernel

/-! 16-bit arithmetic. -/

/-- V-A16-1. -/
theorem test_add_hl : let t := after (code [0x09] (fun c => { accF 1 0x80 c with h := 0x0F, l := 0xFF, b := 0, c := 1 }))
    t.cpu.hl = 0x1000 ∧ t.cpu.f = 0xA0 := by decide +kernel

/-- V-A16-2. -/
theorem test_add_hl_hl : let t := after (code [0x29] (fun c => { accF 1 0x00 c with h := 0x80, l := 0x00 }))
    t.cpu.hl = 0x0000 ∧ t.cpu.f = 0x10 := by decide +kernel

/-- V-A16-5. -/
theorem test_inc_bc : let t := after (code [0x03] (fun c => { accF 1 0x00 c with b := 0xFF, c := 0xFF }))
    t.cpu.bc = 0x0000 ∧ t.cpu.f = 0x00 := by decide +kernel

/-- V-A16-6. -/
theorem test_dec_sp : let t := after (code [0x3B] (fun c => { accF 1 0xF0 c with sp := 0x0000 }))
    t.cpu.sp = 0xFFFF ∧ t.cpu.f = 0xF0 := by decide +kernel

/-- V-A16-10. -/
theorem test_add_sp_minus : let t := after (code [0xE8, 0xFF] (fun c => { accF 1 0xB0 c with sp := 0x0001 }))
    t.cpu.sp = 0x0000 ∧ t.cpu.f = 0x30 ∧ elapsed t = 16 := by decide +kernel

/-! Rotates, shifts and bits. -/

/-- V-ROT-2. -/
theorem test_rlca_clears_z : let t := after (code [0x07] (accF 0x00 0xF0))
    t.cpu.a = 0x00 ∧ t.cpu.f = 0x00 := by decide +kernel

/-- V-ROT-3, V-ROT-5, V-ROT-6. -/
theorem test_acc_rotates : (after (code [0x0F] (accF 0x01 0x00))).cpu.af = 0x8010 ∧
    (after (code [0x17] (accF 0x00 0x10))).cpu.af = 0x0100 ∧
    (after (code [0x1F] (accF 0x01 0x80))).cpu.af = 0x0010 := by decide +kernel

/-- V-ROT-8. -/
theorem test_rlc_hl : let t := after (byte 0xC100 0x81 (code [0xCB, 0x06] (fun c => { c with h := 0xC1, l := 0 })))
    t.read8 0xC100 = 0x03 ∧ t.cpu.f = 0x10 ∧ elapsed t = 16 := by decide +kernel

/-- V-ROT-9, V-ROT-10, V-ROT-11. -/
theorem test_cb_rotates : (after (code [0xCB, 0x0F] (accF 0x01 0x00))).cpu.af = 0x8010 ∧
    (after (code [0xCB, 0x11] (fun c => { accF 1 0 c with c := 0x80 }))).cpu.f = 0x90 ∧
    (after (code [0xCB, 0x1A] (fun c => { accF 1 0 c with d := 0x01 }))).cpu.f = 0x90 := by decide +kernel

/-- V-SH-1, V-SH-2, V-SH-4. -/
theorem test_shifts : (after (code [0xCB, 0x23] (fun c => { c with e := 0xFF }))).cpu.e = 0xFE ∧
    (after (code [0xCB, 0x2C] (fun c => { c with h := 0x81 }))).cpu.h = 0xC0 ∧
    (after (code [0xCB, 0x3F] (accF 0xFF 0x00))).cpu.af = 0x7F10 := by decide +kernel

/-- V-SW-1. -/
theorem test_swap : let t := after (code [0xCB, 0x35] (fun c => { accF 1 0xF0 c with l := 0xF0 }))
    t.cpu.l = 0x0F ∧ t.cpu.f = 0x00 := by decide +kernel

/-- V-BIT-2. -/
theorem test_bit_hl : let t := after (byte 0xC100 0x80 (code [0xCB, 0x7E] (fun c => { accF 1 0xC0 c with h := 0xC1, l := 0 })))
    t.cpu.f = 0x20 ∧ t.read8 0xC100 = 0x80 ∧ elapsed t = 12 := by decide +kernel

/-- V-RES-2. -/
theorem test_res_hl :
    (after (byte 0xC100 0xFF (code [0xCB, 0xBE] (fun c => { c with h := 0xC1, l := 0 })))).read8 0xC100 = 0x7F := by
  decide +kernel

/-- V-SET-1. -/
theorem test_set : let t := after (code [0xCB, 0xD9] (fun c => { accF 1 0 c with c := 0x00 }))
    t.cpu.c = 0x08 ∧ t.cpu.f = 0x00 := by decide +kernel

/-! Control transfer. -/

/-- V-CF-2, V-CF-3. -/
theorem test_jp_nz : let t := after (code [0xC2, 0x00, 0xD0] (accF 1 0x00))
    let u := after (code [0xC2, 0x00, 0xD0] (accF 1 0x80))
    t.cpu.pc = 0xD000 ∧ elapsed t = 16 ∧ u.cpu.pc = 0xC003 ∧ elapsed u = 12 := by decide +kernel

/-- V-CF-8. -/
theorem test_jr_backwards : (after (code [0x18, 0x80])).cpu.pc = 0xBF82 := by decide +kernel

/-- V-CF-12. -/
theorem test_jr_nc_not_taken : let t := after (code [0x30, 0x10] (accF 1 0x10))
    t.cpu.pc = 0xC002 ∧ elapsed t = 8 := by decide +kernel

/-- V-CF-14. -/
theorem test_call : let t := after (code [0xCD, 0x34, 0x12] (fun c => { c with sp := 0xD000 }))
    t.cpu.pc = 0x1234 ∧ t.read8 0xCFFF = 0xC0 ∧ t.read8 0xCFFE = 0x03 ∧ elapsed t = 24 := by decide +kernel

/-- V-CF-18, V-CF-19. -/
theorem test_ret_z :
    let s := fun (f : Byte) => byte 0xCFFE 0x03 (byte 0xCFFF 0xC0 (code [0xC8] (fun c => { accF 1 f c with sp := 0xCFFE })))
    (after (s 0x80)).cpu.pc = 0xC003 ∧ elapsed (after (s 0x80)) = 20 ∧ (after (s 0x00)).cpu.pc = 0xC001 ∧
      elapsed (after (s 0x00)) = 8 := by decide +kernel

/-- V-CF-20. -/
theorem test_reti : let t := after (byte 0xCFFE 0x03 (byte 0xCFFF 0xC0 (code [0xD9] (fun c => { c with sp := 0xCFFE }))))
    t.cpu.pc = 0xC003 ∧ t.cpu.ime = true ∧ t.cpu.sp = 0xD000 := by decide +kernel

/-- V-CF-21. -/
theorem test_rst : let t := after (code [0xFF] (fun c => { c with sp := 0xD000 }))
    t.cpu.pc = 0x0038 ∧ t.read8 0xCFFF = 0xC0 ∧ t.read8 0xCFFE = 0x01 := by decide +kernel

/-! System instructions, waiting, the freeze. -/

/-- V-SYS-5. -/
theorem test_ei_is_late : let t := after (irqs 4 4 (code [0xFB, 0x00, 0x3C]))
    t.cpu.ime = false ∧ t.cpu.eiPending = true ∧ t.irq.iflag = 4 ∧ t.cpu.pc = 0xC001 := by decide +kernel

/-- V-SYS-6, its second step. -/
theorem test_ei_then_dispatch :
    let t := after (irqs 4 4 (code [0x00, 0x3C] (fun c => { c with eiPending := true, sp := 0xD000 })))
    t.cpu.pc = 0x0050 ∧ t.cpu.ime = false ∧ t.irq.iflag = 0 ∧ t.read8 0xCFFE = 0x01 ∧ elapsed t = 24 := by
  decide +kernel

/-- V-SYS-7, its second step. -/
theorem test_di_cancels_ei : let t := after (irqs 4 4 (code [0xF3] (fun c => { c with eiPending := true })))
    t.cpu.ime = false ∧ t.cpu.eiPending = false ∧ t.cpu.pc = 0xC001 := by decide +kernel

/-- V-HLT-1. -/
theorem test_halt : let t := after (code [0x76, 0x3C])
    t.cpu.halted = true ∧ t.cpu.pc = 0xC001 ∧ elapsed t = 4 := by decide +kernel

/-- V-HLT-5. -/
theorem test_halt_bug : let t := after (irqs 4 4 (code [0x76, 0x3C]))
    t.cpu.halted = false ∧ t.cpu.haltBug = true := by decide +kernel

/-- V-HLT-8, its second step. -/
theorem test_halt_bug_operand : let t := after (code [0x3E, 0x14] (fun c => { c with haltBug := true }))
    t.cpu.a = 0x3E ∧ t.cpu.pc = 0xC001 ∧ t.cpu.haltBug = false := by decide +kernel

/-- V-HLT-3, its last step. -/
theorem test_wake_without_service : let t := after (irqs 4 4 (code [0x3C] (fun c => { c with halted := true })))
    t.cpu.a = 0x02 ∧ t.cpu.halted = false ∧ t.irq.iflag = 4 := by decide +kernel

/-- V-HLT-11. -/
theorem test_stop_is_one_byte : let t := after (code [0x10, 0x00, 0x3C])
    t.cpu.stopped = true ∧ t.cpu.pc = 0xC001 := by decide +kernel

/-- V-ILL-1. -/
theorem test_freeze : let t := after (irqs 1 1 (code [0xD3, 0x3C] (fun c => { c with ime := true, sp := 0xD000 })))
    t.cpu.frozen = true ∧ t.cpu.pc = 0xC001 ∧ t.irq.iflag = 1 ∧ t.cpu.sp = 0xD000 ∧ elapsed t = 4 := by decide +kernel

/-! Interrupts. -/

/-- V-INT-3. -/
theorem test_int_priority : let t := after (irqs 0x1E 0x1A (code [0x00] (fun c => { c with ime := true, sp := 0xD000 })))
    t.cpu.pc = 0x0048 ∧ t.irq.iflag = 0x18 ∧ t.cpu.ime = false ∧ elapsed t = 24 := by decide +kernel

/-- V-INT-4. -/
theorem test_int_enabled_only : let t := after (irqs 0x10 0x1F (code [0x00] (fun c => { c with ime := true, sp := 0xD000 })))
    t.cpu.pc = 0x0060 ∧ t.irq.iflag = 0x0F := by decide +kernel

/-! Timer, joypad. -/

/-- V-TIM-7. -/
theorem test_timer_overflow : let s := timer 0x000C 0xFF 0x23 5
    (State.tick 3 s).timer.tima = 0xFF ∧ (State.tick 4 s).timer.tima = 0x00 ∧ (State.tick 7 s).irq.iflag = 0 ∧
      (State.tick 8 s).timer.tima = 0x23 ∧ (State.tick 8 s).irq.iflag = 4 := by decide +kernel

/-- V-TIM-8: the write comes one t-cycle after the overflow. -/
theorem test_timer_write_cancels :
    let t := State.tick 10 ((State.tick 5 (timer 0x000C 0xFF 0x23 5)).write8 0xFF05 0x77)
    t.timer.tima = 0x77 ∧ t.irq.iflag = 0 := by decide +kernel

/-- V-TIM-9, V-TIM-10. -/
theorem test_div_write : ((timer 8 0x10 0 5).write8 0xFF04 0x99).timer.tima = 0x11 ∧
    ((timer 7 0x10 0 5).write8 0xFF04 0x99).timer.tima = 0x10 := by decide +kernel

/-- V-TIM-11. -/
theorem test_tac_write : let t := (timer 8 0x10 0 5).write8 0xFF07 0x01
    t.timer.tima = 0x11 ∧ t.read8 0xFF07 = 0xF9 := by decide +kernel

/-- V-JOY-3. -/
theorem test_joypad_directions : let t := ((code []).write8 0xFF00 0x20).setButtons 0x80
    t.read8 0xFF00 = 0xE7 ∧ t.irq.iflag = 0x10 := by decide +kernel

/-- V-JOY-10. -/
theorem test_joypad_both_rows : (((code []).write8 0xFF00 0x00).setButtons 0x81).read8 0xFF00 = 0xC6 := by
  decide +kernel

/-! PPU. -/

/-- The cold PPU one dot before the dot `d + 1` of line `ly`. -/
def ppuAt (ly : Byte) (d : Nat) (mode : PpuMode) : Ppu := { Ppu.cold with ly := ly, dot := d, mode := mode }

/-- V-PPU-T-3, T-5, T-7. -/
theorem test_ppu_line : ((ppuAt 0 79 .oamScan).tick1 []).1.mode = .draw ∧
    (((ppuAt 0 455 .hblank).tick1 []).1.ly, ((ppuAt 0 455 .hblank).tick1 []).1.mode) = (1, .oamScan) := by decide +kernel

/-- V-PPU-T-9, T-11. -/
theorem test_ppu_vblank : let r := (ppuAt 143 455 .hblank).tick1 []
    let q := (ppuAt 153 455 .vblank).tick1 []
    r.1.ly = 144 ∧ r.1.mode = .vblank ∧ r.2 = 1 ∧ r.1.frameDone = true ∧ q.1.ly = 0 ∧ q.1.mode = .oamScan := by
  decide +kernel

/-- V-PPU-S-2. -/
theorem test_stat_on_write : ((code []).write8 0xFF41 0x40).irq.iflag = 2 := by decide +kernel

/-- V-PPU-S-7. -/
theorem test_stat_read : ((code []).write8 0xFF41 0xFF).read8 0xFF41 = 0xFE := by decide +kernel

/-- V-PPU-L-1. -/
theorem test_lcd_off : let t := ({ code [] with ppu := ppuAt 2 88 .draw } : State).write8 0xFF40 0x11
    t.ppu.ly = 0 ∧ t.ppu.mode = .hblank ∧ t.ppu.dot = 0 ∧ t.read8 0xFF41 = 0x84 := by decide +kernel

/-- V-PPU-TILE-1. -/
theorem test_tile_row : (List.range 8).map (tilePixel [(0x8000, 0x3C), (0x8001, 0x7E)] 0x8000 0) =
    [0, 2, 3, 3, 3, 3, 2, 0] := by decide +kernel

/-- V-PPU-ADDR-2. -/
theorem test_tile_addr : ([0x00, 0x7F, 0x80, 0xFF].map (Ppu.tileAddr { Ppu.cold with lcdc := 0x81 })) =
    [0x9000, 0x97F0, 0x8800, 0x8FF0] := by decide +kernel

/-- The memory of V-PPU-BG-2. -/
def bgMem : List Host.Cell := [(0x8010, 0xFF), (0x9800, 0x01)]

/-- V-PPU-BG-3, `SCX = 04` and `SCX = FC`. -/
theorem test_bg_scroll : let p := fun (scx : Byte) => ({ Ppu.cold with bgp := 0xE4, scx := scx } : Ppu)
    [3, 4, 159].map ((p 0x04).pixel bgMem) = [1, 0, 0] ∧ [3, 4, 11, 12].map ((p 0xFC).pixel bgMem) = [0, 1, 1, 0] := by
  decide +kernel

/-- V-PPU-SPR-2: sprite 0 at `X = 9`, sprite 1 at `X = 8`. -/
theorem test_sprite_priority :
    let m := Memory.ofBytes 0x8010 [0xFF, 0x00] ++ Memory.ofBytes 0x8020 [0xFF, 0xFF] ++
      Memory.ofBytes 0xFE00 [0x10, 0x09, 0x01, 0x00, 0x10, 0x08, 0x02, 0x10]
    let p : Ppu := { Ppu.cold with lcdc := 0x93, obp0 := 0xE4, obp1 := 0xE4, lineSprites := [0, 1] }
    [0, 1, 7, 8, 9].map (p.pixel m) = [3, 3, 3, 1, 0] := by decide +kernel

/-- V-PPU-SCAN-2. -/
theorem test_oam_scan :
    (Ppu.oamScan { Ppu.cold with lcdc := 0x93 } (Memory.ofBytes 0xFE00
      [0x09, 0, 0, 0, 0x10, 0, 0, 0, 0x08, 0, 0, 0, 0x11, 0, 0, 0])).lineSprites = [0, 1] := by decide +kernel

/-- V-PPU-LOCK-1, in mode 3. -/
theorem test_vram_lock : let s := byte 0x8000 0x12 { code [] with ppu := ppuAt 0 100 .draw }
    s.read8 0x8000 = 0xFF ∧ (s.write8 0x8000 0x34).rawRead 0x8000 = 0x12 := by decide +kernel

/-! APU. -/

/-- V-APU-7, V-APU-8. -/
theorem test_apu_power_off : let t := (code []).write8 0xFF26 0x00
    t.read8 0xFF26 = 0x70 ∧ t.read8 0xFF11 = 0x3F ∧ (t.write8 0xFF11 0x80).read8 0xFF11 = 0x3F ∧
      (t.write8 0xFF26 0x80).read8 0xFF26 = 0xF0 := by decide +kernel

/-- V-APU-9. -/
theorem test_apu_trigger : let t := writes (code []) [(0xF0, 0xFF17), (0x80, 0xFF19)]
    t.read8 0xFF26 = 0xF3 ∧ t.apu.ch2.length = 64 ∧ t.apu.ch2.freqTimer = 8192 := by decide +kernel

/-- V-APU-10. -/
theorem test_apu_dac_off : (writes (code []) [(0x00, 0xFF17), (0x80, 0xFF19)]).read8 0xFF26 = 0xF1 := by decide +kernel

/-- V-APU-15, V-APU-16: one clock in each mode. -/
theorem test_lfsr : lfsrShift false 0x0001 = 0x4000 ∧ lfsrShift true 0x0181 = 0x40C0 := by decide +kernel

/-- V-APU-21. -/
theorem test_sweep :
    let c : Square := { Square.zero with enabled := true, freq := 0x400 }
    let w : Sweep := { Sweep.zero with enabled := true, shadow := 0x400, shift := 1, period := 1, timer := 1 }
    (sweepClock c w).1.freq = 0x600 ∧ (sweepClock c w).1.enabled = false := by decide +kernel

/-- V-APU-25. -/
theorem test_mix : let c : Square := { Square.zero with enabled := true, vol := 15, dutyPos := 7 }
    Apu.leftRaw { Apu.cold with ch1 := c, ch2 := c, nr50 := 0x77, nr51 := 0x12 } = 120 := by decide +kernel

/-- R506 and R300: four samples for each m-cycle, `NOP` alone and `NOP` with a dispatch (1 and 6 m-cycles); every other
sample of the first, and none of a frozen step. -/
theorem test_sound : let s := code [0x00] (fun c => { c with ime := true, sp := 0xD000 })
    s.stepAudio.length = 4 ∧ (irqs 4 4 s).stepAudio.length = 24 ∧
      (Frame.samples (fun k => k % 2 = 0) ⟨s, s.stepAudio⟩).length = 2 ∧
      (s.setCpu { s.cpu with frozen := true }).stepAudio.length = 0 := by decide +kernel

/-- R304: `step_frame` from dot 452 of line 143 ends at line 144 after one instruction, with its four samples. -/
theorem test_step_frame :
    (match ((code [0x00]).setPpu (ppuAt 143 452 .hblank)).stepFrame 3 with
    | .next f => decide (f.state.ppu.ly.toNat = 144) && f.state.ppu.frameDone && decide (f.audio.length = 4)
    | _ => false) = true := by decide +kernel

/-- R343, R344: a run of two frames with two masks, from dot 452 of line 143 with the directions selected. In the first
frame `Down` is seen in `P1` and its request stands beside that of VBlank; in the second it is released. -/
theorem test_play :
    (match (((code [0x00, 0x00]).write8 0xFF00 0x20).setPpu (ppuAt 143 452 .hblank)).play 1 [0x80, 0x00] with
    | .next [f, g] => f.state.read8 0xFF00 == 0xE7 && f.state.irq.iflag == 0x11 && f.state.ppu.ly == 144 &&
        g.state.read8 0xFF00 == 0xEF
    | _ => false) = true := by decide +kernel

/-! Cartridge. -/

/-- V-MBC1-3. -/
theorem test_mbc1_zero : (writes (cart .mbc1 128) [(0x01, 0x4000), (0x00, 0x2000)]).read8 0x4000 = 0x21 := by
  decide +kernel

/-- V-MBC1-5b. -/
theorem test_mbc1_mode : let s := writes (cart .mbc1 128) [(0x01, 0x6000), (0x02, 0x4000)]
    s.read8 0x0000 = 0x40 ∧ s.read8 0x4000 = 0x41 := by decide +kernel

/-- V-MBC1-9. -/
theorem test_mbc1_ram : let s := writes (cart .mbc1 4) [(0x0A, 0x0000), (0x55, 0xA000), (0x00, 0x0000)]
    s.read8 0xA000 = 0xFF ∧ (s.write8 0x1FFF 0x1A).read8 0xA000 = 0x55 := by decide +kernel

/-- V-MBC2-2, V-MBC2-3. -/
theorem test_mbc2 : (writes (cart .mbc2 16) [(0x0A, 0x0000), (0x35, 0xA001)]).read8 0xA001 = 0xF5 ∧
    ((cart .mbc2 16).write8 0x2100 0x03).read8 0x4000 = 0x03 := by decide +kernel

/-- V-MBC3-1. -/
theorem test_mbc3_bank : ((cart .mbc3 128).write8 0x2000 0x20).read8 0x4000 = 0x20 ∧
    ((cart .mbc3 128).write8 0x2000 0x80).read8 0x4000 = 0x01 := by decide +kernel

/-- V-MBC3-3, with the draw given. -/
theorem test_mbc3_latch : let c := (cart .mbc3 4).cart
    let now : RtcTime := ⟨0x3B, 0x00, 0x17, 0x1FF⟩
    ((c.writeControl 0x6000 0x00 now).writeControl 0x6000 0x01 now).rtc = ⟨0x3B, 0x00, 0x17, 0xFF, 0x01⟩ := by
  decide +kernel

/-- V-MBC1-5b and V-MBC1-6, the RAM bank: `bank_hi` in mode 1, bank 0 in mode 0. -/
theorem test_mbc1_ram_bank : let s := writes (cart .mbc1 128) [(0x02, 0x4000), (0x0A, 0x0000)]
    ((s.write8 0x6000 0x01).write8 0xA000 0x99).cart.ram = [(0x4000, 0x99)] ∧
      (s.write8 0xA000 0x99).cart.ram = [(0x0000, 0x99)] := by decide +kernel

/-- V-MBC1-10. -/
theorem test_ram_mirror : let s := (cart .mbc1 4).setCart { (cart .mbc1 4).cart with ramSize := 0x800 }
    [0xA000, 0xA800, 0xB000, 0xB800].map (writes s [(0x0A, 0x0000), (0x77, 0xA000)]).read8 =
      [0x77, 0x77, 0x77, 0x77] := by decide +kernel

/-- V-MBC3-2, V-MBC3-5. -/
theorem test_mbc3_ram : let s := (cart .mbc3 4).write8 0x0000 0x0A
    (writes s [(0x03, 0x4000), (0x99, 0xA000)]).cart.ram = [(0x6000, 0x99)] ∧
      (s.write8 0x4000 0x05).read8 0xA000 = 0xFF := by decide +kernel

/-- R555: a wrong length is refused with and without a battery; a right one without a battery leaves zeros. -/
theorem test_sram_length : sramInit .mbc1 true 2 (some [1]) = .error .sramLengthMismatch ∧
    sramInit .mbc1 false 2 (some [1]) = .error .sramLengthMismatch ∧ sramInit .mbc1 false 2 (some [1, 2]) = .ok [] :=
  ⟨rfl, rfl, rfl⟩

/-- V-LOAD-2. -/
theorem test_truncated_rom : checkRom [0x00] false = .error .truncatedRom := rfl

/-! Memory map. -/

/-- V-MEM-5. -/
theorem test_reset_reads : ([0xFF00, 0xFF01, 0xFF02, 0xFF04, 0xFF05, 0xFF06, 0xFF07, 0xFF0F].map State.reset.read8) =
    [0xCF, 0x00, 0x7E, 0xAB, 0x00, 0x00, 0xF8, 0xE1] := by decide +kernel

/-- V-PPU-DMA-1, two bytes of the page. -/
theorem test_oam_dma : let t := (byte 0xC100 0x11 (byte 0xC19F 0x22 (code []))).write8 0xFF46 0xC1
    t.rawRead 0xFE00 = 0x11 ∧ t.rawRead 0xFE9F = 0x22 ∧ t.read8 0xFF46 = 0xC1 := by decide +kernel

/-! Witnesses: for each statement with hypotheses, values that meet all the hypotheses of a clause together. -/

theorem wit_DecodeOfEncode : WellFormed (.ldHLImm16 0x1234) ∧ WellFormed .set7A := ⟨rfl, rfl⟩

theorem wit_StepRunsDecodedInstruction : let s := code [0x3E, 0x42]
    s.cpu.frozen = false ∧ s.cpu.waiting = false ∧ s.cpu.haltBug = false ∧
      decode [s.read8 s.cpu.pc, s.read8 (s.cpu.pc + 1), s.read8 (s.cpu.pc + 2)] = .ok (.ldAImm8 0x42, 2) ∧
      WellFormed (.ldAImm8 0x42) := ⟨rfl, rfl, rfl, rfl, rfl⟩

theorem wit_HaltBugFetch : let s := code [0x3E, 0x14] (fun c => { c with haltBug := true })
    s.cpu.frozen = false ∧ s.cpu.waiting = false ∧ s.cpu.haltBug = true ∧
      decode [s.read8 s.cpu.pc, s.read8 s.cpu.pc, s.read8 (s.cpu.pc + 1)] = .ok (.ldAImm8 0x3E, 2) ∧
      WellFormed (.ldAImm8 0x3E) := ⟨rfl, rfl, rfl, rfl, rfl⟩

/-- The first case: an interrupt is pending and `IME = 1` after the tick. -/
theorem wit_RestOfTheStep_dispatch :
    let v := State.tick 4 ((irqs 4 4 (code [] (fun c => { c with ime := true }))).cost 0)
    v.cpu.frozen = false ∧ v.cpu.ime = true ∧ v.irq.pending = true := by decide +kernel

/-- The second case, and an `EI` that commits. -/
theorem wit_RestOfTheStep_other : let s := code [] (fun c => { c with eiPending := true })
    s.cpu.eiPending = true ∧ (State.tick 4 (s.cost 0)).irq.pending = false := by decide +kernel

theorem wit_FreezeBit : let s := code [] (fun c => { c with frozen := true })
    s.cpu.frozen = true ∧ exec .nop s = .next (s.cost 1) := ⟨rfl, rfl⟩

theorem wit_FreezeResult : exec (.illegal .d3) (code []) = .next ((code []).freeze.cost 1) := rfl

/-- The first clause, with `IME = 0` and with `IME = 1`. -/
theorem wit_Waiting_waits : let s := code [] (fun c => { c with halted := true })
    let t := code [] (fun c => { c with stopped := true, ime := true })
    s.cpu.frozen = false ∧ s.cpu.waiting = true ∧ s.irq.pending = false ∧ s.cpu.eiPending = false ∧ s.cpu.ime = false ∧
      t.cpu.waiting = true ∧ t.irq.pending = false ∧ (State.tick 4 t).irq.pending = false := by decide +kernel

/-- The second and the third clause. -/
theorem wit_Waiting_wakes : let s := irqs 4 4 (code [] (fun c => { c with halted := true }))
    let t := irqs 0 4 (code [] (fun c => { c with stopped := true }))
    s.cpu.frozen = false ∧ s.cpu.waiting = true ∧ s.irq.pending = true ∧ t.cpu.waiting = true ∧ t.irq.ie = 0 := by
  decide +kernel

theorem wit_InterruptDispatch : let s := irqs 4 4 (code [] (fun c => { c with sp := 0xD000 }))
    s.irq.pending = true ∧ plainRam (s.cpu.sp - 1) = true ∧ plainRam (s.cpu.sp - 2) = true ∧
      s.cpu.haltBug = false := by decide +kernel

theorem wit_EiTakesEffect_ei : let s := code [0xFB]
    s.cpu.frozen = false ∧ s.cpu.waiting = false ∧ s.cpu.haltBug = false ∧ s.cpu.ime = false ∧
      s.cpu.eiPending = false ∧ s.read8 s.cpu.pc = 0xFB := ⟨rfl, rfl, rfl, rfl, rfl, rfl⟩

/-- The clause of the `NOP` after `EI`, once with nothing pending and once with an interrupt pending. -/
theorem wit_EiTakesEffect_nop : let s := code [0x00] (fun c => { c with eiPending := true })
    s.cpu.frozen = false ∧ s.cpu.waiting = false ∧ s.cpu.haltBug = false ∧ s.cpu.eiPending = true ∧
      s.read8 s.cpu.pc = 0x00 ∧ (State.tick 4 s).irq.pending = false ∧
      (State.tick 4 (irqs 4 4 s)).irq.pending = true := by decide +kernel

/-- The clause of any other instruction after `EI`: fetched in the plain way with nothing and with something pending
after the tick, fetched after a bugged `HALT`, and an undefined opcode, which freezes. -/
theorem wit_EiTakesEffect_any : let s := code [0x3C] (fun c => { c with eiPending := true })
    let h := code [0x3E, 0x14] (fun c => { c with eiPending := true, haltBug := true })
    s.cpu.frozen = false ∧ s.cpu.waiting = false ∧ s.cpu.eiPending = true ∧ s.cpu.haltBug = false ∧
      decode [s.read8 s.cpu.pc, s.read8 (s.cpu.pc + 1), s.read8 (s.cpu.pc + 2)] = .ok (.incA, 1) ∧
      WellFormed .incA ∧ Instr.incA ≠ .di ∧ (State.tick 4 s).irq.pending = false ∧
      (State.tick 4 (irqs 4 4 s)).irq.pending = true ∧ h.cpu.haltBug = true ∧
      decode [h.read8 h.cpu.pc, h.read8 h.cpu.pc, h.read8 (h.cpu.pc + 1)] = .ok (.ldAImm8 0x3E, 2) ∧
      WellFormed (.ldAImm8 0x3E) ∧ decode [0xD3, 0, 0] = .ok (.illegalD3, 1) ∧ WellFormed .illegalD3 := by
  decide +kernel

theorem wit_EiTakesEffect_di : let s := code [0xF3]
    s.cpu.frozen = false ∧ s.cpu.waiting = false ∧ s.cpu.haltBug = false ∧ s.read8 s.cpu.pc = 0xF3 :=
  ⟨rfl, rfl, rfl, rfl⟩

/-- The stack at both ends of HRAM and at the top of WRAM's echo. -/
theorem wit_StackResult : let s := fun (a : Word) => code [] (fun c => { c with sp := a })
    ([0xD000, 0xFFFF, 0xFF82, 0xFE00] : List Word).all
      (fun a => plainRam ((s a).cpu.sp - 1) && plainRam ((s a).cpu.sp - 2)) = true := by decide +kernel

theorem wit_DaaResult : (code []).cpu.nf = false ∧ (code [] (accF 0 0x40)).cpu.nf = true := ⟨rfl, rfl⟩

theorem wit_BcdArithmetic : (99 : Nat) < 100 ∧ (0 : Nat) < 100 ∧ (code [] (accF 0x99 0)).cpu.a = bcd 99 := by
  decide +kernel

/-- Both cases of each condition: of `JumpResult`, `CallResult` and `ReturnResult`. -/
theorem wit_conditions : ∀ k ∈ [Cond.nz, .z, .nc, .c],
    (code [] (accF 0 0x00)).cpu.holds k = !(code [] (accF 0 0x90)).cpu.holds k := by decide +kernel

theorem wit_SystemResult : let s := irqs 4 4 (code [])
    s.cpu.ime = false ∧ s.irq.ie &&& s.irq.iflag ≠ 0 ∧ (irqs 4 1 s).irq.ie &&& (irqs 4 1 s).irq.iflag = 0 := by
  decide +kernel

/-- `StoreFrame`: an address that meets every premise on the address, the address `FF46` with its bytes outside OAM, and
a byte other than the one named. -/
theorem wit_StoreFrame : let a : Word := 0xC000
    a ≠ 0xFF00 ∧ a ≠ 0xFF01 ∧ a ≠ 0xFF02 ∧ a.toNat < 0xFF04 ∧ 0x8000 ≤ a.toNat ∧ 0xC000 ≤ a.toNat ∧ a ≠ 0xFF46 ∧
      cellOf a ≠ 0xC001 ∧ 0xFDFF < 0xFE00 ∧ 0xFEA0 ≤ 0xFEA0 := by decide +kernel

/-- `StoreReadsBack`: each of its four kinds of address, at the ends of its range, and a second address. -/
theorem wit_StoreReadsBack : let s := code []
    let t := (code []).setPpu { Ppu.cold with lcdc := 0x11 }
    (([0xC000, 0xFDFF, 0xFF80, 0xFFFE] : List Word).all (fun a => decide (plainRam a = true)) = true) ∧
    (([0xFF30, 0xFF3F] : List Word).all (fun a => decide (0xFF30 ≤ a.toNat ∧ a.toNat ≤ 0xFF3F)) = true) ∧
    (([0x8000, 0x9FFF] : List Word).all (fun a => decide (regionOf a = .vram)) = true) ∧ s.ppu.vramLocked = false ∧
    (([0xFE00, 0xFE9F] : List Word).all (fun a => decide (regionOf a = .oam)) = true) ∧ t.ppu.oamLocked = false ∧
    cellOf 0xE001 ≠ cellOf 0xC000 := by decide +kernel

theorem wit_HramReadsBack : regionOf 0xFF80 = .hram ∧ regionOf 0xFFFE = .hram ∧ (0xFFFE : Word) ≠ 0xFF80 := by
  decide +kernel

/-- `LockedAndUnmapped`, the first part: each clause at both ends of its region. -/
theorem wit_LockedAndUnmapped_lock : let draw := (code []).setPpu (ppuAt 0 100 .draw)
    let blank := (code []).setPpu (ppuAt 0 300 .hblank)
    regionOf 0x8000 = .vram ∧ regionOf 0x9FFF = .vram ∧ regionOf 0xFE00 = .oam ∧ regionOf 0xFE9F = .oam ∧
      draw.ppu.lcdc.getLsbD 7 = true ∧ draw.ppu.mode = .draw ∧ (code []).ppu.mode = .oamScan ∧
      blank.ppu.mode = .hblank ∧ blank.ppu.mode ≠ .draw := by decide +kernel

/-- The second part: both ends of each range of `LockedAndUnmapped`. -/
theorem wit_LockedAndUnmapped_ranges :
    (([0xFEA0, 0xFEFF] : List Word).all (fun a => decide (0xFEA0 ≤ a.toNat ∧ a.toNat ≤ 0xFEFF)) = true) ∧
    (([0xFF08, 0xFF0E] : List Word).all (fun a => decide (0xFF08 ≤ a.toNat ∧ a.toNat ≤ 0xFF0E)) = true) ∧
    (([0xFF27, 0xFF2F] : List Word).all (fun a => decide (0xFF27 ≤ a.toNat ∧ a.toNat ≤ 0xFF2F)) = true) ∧
    (([0xFF4C, 0xFF7F] : List Word).all (fun a => decide (0xFF4C ≤ a.toNat ∧ a.toNat ≤ 0xFF7F)) = true) ∧
    (([0xE000, 0xFDFF] : List Word).all (fun a => decide (0xE000 ≤ a.toNat ∧ a.toNat ≤ 0xFDFF)) = true) := by decide +kernel

theorem wit_OamDmaCopies : (159 : Nat) < 160 ∧ (0xFDFF : Nat) < 0xFE00 ∧ (0xFEA0 : Nat) ≤ 0xFEA0 := by decide

/-- Enabled with `TIMA + edges = 255`, and disabled. -/
theorem wit_TimaRate : let t := (timer 0 0xFE 0 5).timer
    t.reload = 0 ∧ t.tac.getLsbD 2 = true ∧ t.tima.toNat + ((t.sysclk.toNat + 16) / 16 - t.sysclk.toNat / 16) ≤ 255 ∧
      (timer 0 0 0 1).timer.tac.getLsbD 2 = false := by decide +kernel

theorem wit_TimaOverflow : let s := timer 0x000F 0xFF 0x23 5
    s.timer.tima = 0xFF ∧ s.timer.reload = 0 ∧ s.timer.signal = true ∧
      Timer.signal { s.timer with sysclk := s.timer.sysclk + 1 } = false := by decide +kernel

/-- Both ends of the range of lines and dots. -/
theorem wit_FramePeriod : ∀ p ∈ [ppuAt 0 0 .oamScan, ppuAt 153 455 .vblank, ppuAt 143 455 .hblank],
    p.lcdOn = true ∧ p.ly.toNat ≤ 153 ∧ p.dot < 456 := by decide +kernel

theorem wit_StatLineBlocks : Ppu.lcdOn { Ppu.cold with lcdc := 0x11 } = false ∧ Ppu.cold.lcdOn = true := by
  decide +kernel

/-- Sprites enabled and two in order: one column where they show, one where they do not. -/
theorem wit_SpritePriority :
    let m := Memory.ofBytes 0x8010 [0xFF, 0x00] ++ Memory.ofBytes 0xFE00 [0x10, 0x09, 0x01, 0x00, 0x10, 0x08, 0x01, 0x00]
    let p : Ppu := { Ppu.cold with lcdc := 0x93, lineSprites := [0, 1] }
    p.lcdc.getLsbD 1 = true ∧ p.lineSprites.Pairwise (fun i j => i.val < j.val) ∧ p.spritePixel m 159 = none ∧
      p.spritePixel m 0 ≠ none := by decide +kernel

theorem wit_LineComposition : (ppuAt 143 251 .draw).ly.toNat < 144 ∧ (159 : Nat) < 160 ∧
    (0 : Nat) ≠ (ppuAt 143 251 .draw).ly.toNat := by decide +kernel

theorem wit_OamScanSelects : let p : Ppu := { Ppu.cold with lcdc := 0x93 }
    let m := Memory.ofBytes 0xFE00 (List.flatten (List.replicate 11 [0x10, 0, 0, 0]))
    p.spriteOnLine m 10 = true ∧ (10 : Fin 40) ∉ (p.oamScan m).lineSprites := by decide +kernel

/-- `ApuPowerOff`: the APU on, with a channel that sounds; the APU off; each value of bit 7. -/
theorem wit_ApuPowerOff : let on := code []
    let off := (code []).setApu { Apu.cold with power := false }
    on.apu.power = true ∧ on.apu.ch1.enabled = true ∧ off.apu.power = false ∧ (0x7F : Byte).getLsbD 7 = false ∧
      (0x80 : Byte).getLsbD 7 = true ∧ 0xFF10 ≤ (0xFF10 : Word).toNat ∧ (0xFF25 : Word).toNat ≤ 0xFF25 := by
  decide +kernel

/-- `FrameSequencer`: each length counter running and not, lengths at both ends of `1..4`, the sweep idle in both ways. -/
theorem wit_FrameSequencer : let a : Apu := { Apu.cold with
      ch1 := { Square.zero with enabled := true, lenEnable := true, length := 1 }
      ch2 := { Square.zero with enabled := true, lenEnable := true, length := 4 }
      ch3 := { Wave.zero with enabled := true, lenEnable := true, length := 5 }
      ch4 := { Noise.zero with enabled := true, lenEnable := true, length := 4 } }
    a.power = true ∧ a.ch1.lenEnable = true ∧ 0 < a.ch1.length ∧ a.ch1.length ≤ 4 ∧ a.ch2.lenEnable = true ∧
      a.ch3.lenEnable = true ∧ a.ch4.lenEnable = true ∧ a.sweep.enabled = false ∧
      Sweep.period { Sweep.zero with enabled := true } = 0 ∧ Apu.cold.ch1.lenEnable = false ∧
      Apu.cold.ch2.lenEnable = false ∧ Apu.cold.ch3.lenEnable = false ∧ Apu.cold.ch4.lenEnable = false ∧
      Apu.cold.ch2.enabled = false ∧ Square.zero.enabled = false := by
  decide +kernel

/-- `ShowsRamBank` and `ShowsNoRam`: both ends of the window; with 2 KiB of RAM an address and its mirror, and one that
names another byte; with no RAM. -/
theorem wit_ShowsRamBank : let off := fun (x : Word) => (3 * 0x2000 + (x.toNat - 0xA000)) % 0x800
    (([0xA000, 0xBFFF] : List Word).all (fun a => decide (0xA000 ≤ a.toNat ∧ a.toNat < 0xC000)) = true) ∧
    (cart .mbc1 4).cart.ramSize ≠ 0 ∧ Cart.blank.ramSize = 0 ∧ off 0xA800 = off 0xA000 ∧ off 0xBFFF ≠ off 0xA000 := by
  decide +kernel

/-- `Mbc1Banking`: RAM enabled in both modes and disabled, and both ends of each range. -/
theorem wit_Mbc1Banking : let c := fun (m : Bool) => { (cart .mbc1 4).cart with ramEnable := true, mode := m }
    (cart .mbc1 4).cart.kind = .mbc1 ∧ (cart .mbc1 4).cart.ramEnable = false ∧ (c true).kind = .mbc1 ∧
    (c true).ramEnable = true ∧ (c true).mode = true ∧ (c false).mode = false ∧
    (([0x0000, 0x1FFF] : List Word).all (fun a => decide (a.toNat < 0x2000)) = true) ∧
    (([0x2000, 0x3FFF] : List Word).all (fun a => decide (0x2000 ≤ a.toNat ∧ a.toNat < 0x4000)) = true) ∧
    (([0x4000, 0x5FFF] : List Word).all (fun a => decide (0x4000 ≤ a.toNat ∧ a.toNat < 0x6000)) = true) ∧
    (([0x6000, 0x7FFF] : List Word).all (fun a => decide (0x6000 ≤ a.toNat ∧ a.toNat < 0x8000)) = true) := by
  decide +kernel

/-- `Mbc23Banking`, the controllers: each kind, RAM enabled and disabled, both values of address bit 8, and the ends of
each range of the selector (RAM 0 to 3, nothing 4 to 7, clock 8 to C, nothing D to F), with and without a clock. -/
theorem wit_Mbc23Banking : let c := fun (k : MbcKind) (r : BitVec 4) => { (cart k 4).cart with
      ramEnable := true, ramBankOrRtc := r }
    (cart .noMbc 2).cart.kind = .noMbc ∧ (c .mbc2 0).kind = .mbc2 ∧ (c .mbc2 0).ramEnable = true ∧
      (cart .mbc2 4).cart.ramEnable = false ∧ (0x0100 : Word).getLsbD 8 = true ∧ (0x3EFF : Word).getLsbD 8 = false ∧
      (c .mbc3 8).kind = .mbc3 ∧ (c .mbc3 8).ramEnable = true ∧ (cart .mbc3 4).cart.ramEnable = false ∧
      (c .mbc3 8).hasRtc = true ∧ Cart.blank.hasRtc = false ∧ (c .mbc3 0).ramBankOrRtc.toNat ≤ 3 ∧
      (c .mbc3 3).ramBankOrRtc.toNat ≤ 3 ∧ 4 ≤ (c .mbc3 4).ramBankOrRtc.toNat ∧
      (c .mbc3 7).ramBankOrRtc.toNat ≤ 7 ∧ 8 ≤ (c .mbc3 8).ramBankOrRtc.toNat ∧
      (c .mbc3 0xC).ramBankOrRtc.toNat ≤ 0xC ∧ 0xD ≤ (c .mbc3 0xD).ramBankOrRtc.toNat := by
  decide +kernel

/-- `Mbc23Banking`, the addresses: both ends of each range of the control registers, of the ROM windows and of the RAM
window; an address of the MBC2's RAM and its mirror. -/
theorem wit_Mbc23Banking_ranges :
    (([0x0000, 0x1FFF] : List Word).all (fun a => decide (a.toNat < 0x2000)) = true) ∧
    (([0x2000, 0x3FFF] : List Word).all (fun a => decide (0x2000 ≤ a.toNat ∧ a.toNat < 0x4000)) = true) ∧
    (([0x4000, 0x5FFF] : List Word).all (fun a => decide (0x4000 ≤ a.toNat ∧ a.toNat < 0x6000)) = true) ∧
    (([0x4000, 0x7FFF] : List Word).all (fun a => decide (0x4000 ≤ a.toNat ∧ a.toNat < 0x8000)) = true) ∧
    (([0xA000, 0xBFFF] : List Word).all (fun a => decide (0xA000 ≤ a.toNat ∧ a.toNat < 0xC000)) = true) ∧
    (0xA200 : Word).toNat % 512 = (0xA000 : Word).toNat % 512 ∧ (0xBFFF : Word).toNat % 512 ≠ 0 := by decide +kernel

theorem wit_RtcLatch : let s := cart .mbc3 4
    let t := s.setCart { s.cart with hasRtc := false }
    s.cart.kind = .mbc3 ∧ s.cart.hasRtc = true ∧ t.cart.kind = .mbc3 ∧ t.cart.hasRtc = false ∧
      0x6000 ≤ (0x6000 : Word).toNat ∧ (0x7FFF : Word).toNat < 0x8000 := by decide +kernel

/-- An MBC2 with its 512 nibbles, and an MBC1 with 32 KiB. -/
theorem wit_BatteryRoundTrip : let c := fun (k : MbcKind) (n : Nat) => { (cart k 4).cart with
      hasBattery := true, ramSize := n }
    (c .mbc2 512).hasBattery = true ∧ (c .mbc2 512).ramSize = 512 ∧ (c .mbc1 0x8000).kind ≠ .mbc2 := by decide +kernel

theorem wit_ResetDeviceReads : plainRam 0xC000 = true ∧ regionOf 0x9FFF = .vram ∧ 0xFF30 ≤ (0xFF30 : Word).toNat ∧
    (0xFF3F : Word).toNat ≤ 0xFF3F := by decide +kernel

/-- Two different states with the same cartridge and the same count of draws. -/
theorem wit_ResetIsIdempotent : let s := code []
    let t := code [0x00, 0x3C] (accF 0x55 0xF0)
    s.cart = t.cart ∧ s.draws = t.draws ∧ s ≠ t := by decide +kernel

/-- `ResetInvariants`: a cartridge with bytes in its RAM. -/
theorem wit_ResetInvariants :
    Memory.wf { Cart.blank with ramSize := 2, ram := Memory.ofBytes 0 [0x01, 0x02] }.ram := Memory.wf_ofBytes 0 _

/-- Whether the step answers a next state. -/
def answers (s : State) : Bool :=
  match step s with
  | .next _ => true
  | _ => false

theorem step_after {s : State} (h : answers s = true) : step s = .next (after s) := by
  unfold answers at h
  unfold after
  split at h
  · next t ht => rw [ht]
  · cases h

/-- `JoypadMatrix`: a state with a button held, and its step. -/
theorem wit_JoypadMatrix : let s := (code [0x3C]).setButtons 0x81
    s.joypad.buttons = 0x81 ∧ step s = .next (after s) := ⟨rfl, step_after (by decide +kernel)⟩

/-- A state that is not the reset state, in canonical form, and its step. -/
theorem wit_StepKeepsMemory : let s := code [0x3C]
    MemInv s ∧ CartRamInv s ∧ step s = .next (after s) := by
  refine ⟨⟨?_, ?_⟩, Memory.wf_nil, step_after ?_⟩ <;> decide +kernel

theorem wit_StepKeepsPpuSchedule : let s := (code [0x3C]).setPpu (ppuAt 150 455 .vblank)
    PpuInv s ∧ step s = .next (after s) := by
  refine ⟨⟨⟨?_, ?_, ?_, ?_⟩, ?_, ?_, ?_⟩, step_after ?_⟩ <;> decide +kernel

theorem wit_StepKeepsTimerPhase : let s := (code [0x3C]).setTimer ⟨0xFFFC, 0, 0x23, 5, 4⟩
    TimerInv s ∧ step s = .next (after s) := by
  refine ⟨⟨?_, Or.inr ?_⟩, step_after ?_⟩ <;> decide +kernel

theorem wit_StepKeepsDacRule : let s := code [0x3C]
    DacInv s ∧ s.apu.ch1.enabled = true ∧ step s = .next (after s) := by
  refine ⟨⟨?_, ?_, ?_, ?_⟩, rfl, step_after ?_⟩ <;> decide +kernel

theorem wit_StepKeepsCartridge : let s := (code [0x3C]).setCart (cart .mbc1 128).cart
    BankInv s ∧ step s = .next (after s) := by
  refine ⟨⟨?_, ?_, ?_⟩, step_after ?_⟩ <;> decide +kernel

end Sys2Proof.Tests
end

section
/-! PROOFS. The state of the machine: device register reads (10_state.md R34 to R36) and the freeze bit (R30). -/

set_option Elab.async false

namespace Sys2Proof

/-- The number of a concatenation (R11). -/
theorem toNat_append_eq {m n : Nat} (x : BitVec m) (y : BitVec n) :
    (x ++ y).toNat = x.toNat * 2 ^ n + y.toNat := by
  rw [BitVec.toNat_append, ← Nat.shiftLeft_add_eq_or_of_lt y.isLt, Nat.shiftLeft_eq]

end Sys2Proof

namespace Sys2Proof.Machine

/-! The bus at a mapped location of `FF00–FF7F`. -/

theorem State.read8_of_ioReg {a : Word} {r : IoReg} (ha : regionOf a = .io) (hr : ioReg a = some r) (s : State) :
    s.read8 a = s.readIo a r := by
  unfold State.read8 State.readBus
  rw [ha]
  show s.readIoPage a = _
  unfold State.readIoPage
  rw [hr]

theorem State.write8_of_ioReg {a : Word} {r : IoReg} (ha : regionOf a = .io) (hr : ioReg a = some r) (s : State)
    (v : Byte) : s.write8 a v = s.writeIo a r v := by
  unfold State.write8
  rw [ha]
  show s.writeIoPage a v = _
  unfold State.writeIoPage
  rw [hr]

theorem State.read8_ie (s : State) : s.read8 0xFFFF = s.irq.readIe := rfl

theorem State.write8_ie (s : State) (v : Byte) : s.write8 0xFFFF v = s.setIrq (s.irq.writeIe v) := rfl

theorem regionOf_of_wave {a : Word} (h : 0xFF30 ≤ a.toNat ∧ a.toNat ≤ 0xFF3F) : regionOf a = .io := by
  unfold regionOf
  iterate 7 rw [if_neg (by omega)]
  exact if_pos (by omega)

/-! What the registers with fixed bits read and store. -/

theorem Irq.readIe_toNat (q : Irq) : q.readIe.toNat = q.ie.toNat := by
  simp only [Irq.readIe, toNat_append_eq, BitVec.ofNat_eq_ofNat, BitVec.toNat_ofNat]
  omega

theorem Irq.readIf_toNat (q : Irq) : q.readIf.toNat = 0xE0 + q.iflag.toNat := by
  simp only [Irq.readIf, toNat_append_eq, BitVec.ofNat_eq_ofNat, BitVec.toNat_ofNat]
  omega

theorem Irq.writeIe_ie (q : Irq) (v : Byte) : (q.writeIe v).ie = v.setWidth 5 :=
  (BitVec.setWidth_eq_extractLsb' (by decide)).symm

theorem Irq.writeIf_iflag (q : Irq) (v : Byte) : (q.writeIf v).iflag = v.setWidth 5 :=
  (BitVec.setWidth_eq_extractLsb' (by decide)).symm

theorem Ppu.readStat_toNat (p : Ppu) :
    p.readStat.toNat = 0x80 + 8 * p.statSel.toNat + (if p.ly = p.lyc then 4 else 0) + p.mode.code.toNat := by
  have hc : 4 * p.coincidence.toNat = if p.ly = p.lyc then 4 else 0 := by
    by_cases h : p.ly = p.lyc <;> simp [Ppu.coincidence, h]
  simp only [Ppu.readStat, toNat_append_eq, bit1_toNat, BitVec.ofNat_eq_ofNat, BitVec.toNat_ofNat]
  omega

/-- The upper half of `P1` (R341): bits 7 and 6 read 1, bits 5 and 4 are the row selection. -/
theorem Joypad.readP1_div (j : Joypad) : j.readP1.toNat / 16 = 0xC + j.select.toNat := by
  have := j.nibble.isLt
  simp only [Joypad.readP1, toNat_append_eq, BitVec.ofNat_eq_ofNat, BitVec.toNat_ofNat]
  omega

theorem Serial.readSc_toNat (p : Serial) : p.readSc.toNat = 0x7E + 128 * p.sc7.toNat + p.sc0.toNat := by
  simp only [Serial.readSc, toNat_append_eq, bit1_toNat, BitVec.ofNat_eq_ofNat, BitVec.toNat_ofNat]
  omega

theorem Timer.readTac_toNat (t : Timer) : t.readTac.toNat = 0xF8 + t.tac.toNat := by
  simp only [Timer.readTac, toNat_append_eq, BitVec.ofNat_eq_ofNat, BitVec.toNat_ofNat]
  omega

theorem Apu.readNr52_toNat (a : Apu) :
    a.readNr52.toNat = 128 * a.power.toNat + 0x70 + 8 * a.ch4.enabled.toNat + 4 * a.ch3.enabled.toNat +
      2 * a.ch2.enabled.toNat + a.ch1.enabled.toNat := by
  simp only [Apu.readNr52, toNat_append_eq, bit1_toNat, BitVec.ofNat_eq_ofNat, BitVec.toNat_ofNat]
  omega

/-- A request of no source changes nothing (R311). -/
theorem State.request_zero (s : State) : s.request 0 = s := by
  have h : s.irq.raise 0 = s.irq := congrArg (Irq.mk s.irq.ie) BitVec.or_zero
  rw [State.request, h, State.setIrq_self]

/-- Settles O35: each register's address is decoded once, and its read is the numeric law of that register. -/
theorem registerReads : Obligations.RegisterReads := by
  intro s v
  have rd := fun {a r} (ha : regionOf a = .io) (hr : ioReg a = some r) => State.read8_of_ioReg ha hr s
  refine ⟨?_, ?_, ?_, ?_, ?_, ?_, rd (a := 0xFF44) (r := .ppu .ly) rfl rfl, ?_, ?_, ?_, ?_⟩
  · rw [State.read8_ie, Irq.readIe_toNat]
  · rw [rd (a := 0xFF0F) rfl rfl]
    exact s.irq.readIf_toNat
  · rw [State.write8_ie, State.setIrq_irq, Irq.writeIe_ie]
  · rw [State.write8_of_ioReg (a := 0xFF0F) rfl rfl]
    exact s.irq.writeIf_iflag v
  · rw [rd (a := 0xFF41) rfl rfl]
    exact s.ppu.readStat_toNat
  · rw [State.write8_of_ioReg (a := 0xFF44) rfl rfl]
    exact s.request_zero
  · rw [rd (a := 0xFF00) rfl rfl]
    exact s.joypad.readP1_div
  · rw [rd (a := 0xFF02) rfl rfl]
    exact s.serial.readSc_toNat
  · rw [rd (a := 0xFF07) rfl rfl]
    exact s.timer.readTac_toNat
  · rw [rd (a := 0xFF26) rfl rfl]
    exact s.apu.readNr52_toNat

/-! The reset state. -/

/-- No device register but `DIV` depends on the parameters of the reset. -/
theorem State.cold_readIo (k : SysclkReset) (cart : Cart) (a : Word) {r : IoReg} (hr : r ≠ .div) :
    (State.cold k cart).readIo a r = State.reset.readIo a r := by
  cases r
  case div => exact absurd rfl hr
  all_goals rfl

/-- What a device register or `IE` reads at reset under the default parameters, it reads under all of them. -/
theorem State.cold_read8 (k : SysclkReset) (cart : Cart) {a : Word} (ha : regionOf a = .io ∨ regionOf a = .ie)
    (hd : ioReg a ≠ some .div) : (State.cold k cart).read8 a = State.reset.read8 a := by
  unfold State.read8 State.readBus
  rcases ha with ha | ha <;> rw [ha]
  · show (State.cold k cart).readIoPage a = State.reset.readIoPage a
    unfold State.readIoPage
    split
    · next r hr => exact State.cold_readIo k cart a (fun h => hd (h ▸ hr))
    · rfl
  · rfl

/-- A table of reset values that the default reset state satisfies holds for every reset. -/
theorem State.cold_read8_table {rows : List (Word × Byte)}
    (h : rows.all (fun r => decide ((regionOf r.1 = .io ∨ regionOf r.1 = .ie) ∧ ioReg r.1 ≠ some .div ∧
      State.reset.read8 r.1 = r.2)) = true)
    (k : SysclkReset) (cart : Cart) : ∀ r ∈ rows, (State.cold k cart).read8 r.1 = r.2 := by
  intro r hr
  obtain ⟨ha, hd, hv⟩ := of_decide_eq_true (List.all_eq_true.mp h r hr)
  rw [State.cold_read8 k cart ha hd, hv]

/-- Every RAM of the machine reads 0 after reset (R602). -/
theorem State.cold_ram (k : SysclkReset) (cart : Cart) (a : Word)
    (ha : plainRam a = true ∨ regionOf a = .vram ∨ (0xFF30 ≤ a.toNat ∧ a.toNat ≤ 0xFF3F)) :
    (State.cold k cart).read8 a = 0 := by
  rcases ha with ha | ha | ha
  · unfold plainRam at ha
    simp only [Bool.or_eq_true, beq_iff_eq] at ha
    rcases ha with (ha | ha) | ha <;> (unfold State.read8 State.readBus; rw [ha]; rfl)
  · have hl : Ppu.cold.vramLocked = false := by decide
    unfold State.read8 State.readBus
    rw [ha]
    show (if (true && Ppu.cold.vramLocked) = true then _ else _) = _
    rw [hl]
    rfl
  · rw [State.read8_of_ioReg (regionOf_of_wave ha) (if_pos ha : ioReg a = some .wave)]
    rfl

/-- Settles O53: the rows of R34 but `DIV` are checked on the default reset state, `DIV` is the parameter's high byte,
and the RAMs are empty lists of cells. -/
theorem resetDeviceReads : Obligations.ResetDeviceReads := by
  intro k cart s
  exact ⟨State.cold_read8_table (by decide) k cart, State.cold_read8_table (by decide) k cart, rfl,
    State.cold_ram k cart, Memory.read_nil⟩

/-! The freeze bit (R30): every operation of the CPU registers and of the bus keeps it. -/

@[simp] theorem Cpu.setFlags_frozen (c : Cpu) (f : Flags) : (c.setFlags f).frozen = c.frozen := rfl

@[simp] theorem Cpu.setHL_frozen (c : Cpu) (v : Word) : (c.setHL v).frozen = c.frozen := rfl

@[simp] theorem Cpu.setReg_frozen (c : Cpu) (r : Reg8) (v : Byte) : (c.setReg r v).frozen = c.frozen := by
  cases r <;> rfl

@[simp] theorem Cpu.setPair_frozen (c : Cpu) (p : Reg16) (v : Word) : (c.setPair p v).frozen = c.frozen := by
  cases p <;> rfl

@[simp] theorem Cpu.afterFetch_frozen (c : Cpu) : c.afterFetch.frozen = c.frozen := by
  unfold Cpu.afterFetch
  split <;> rfl

@[simp] theorem Cpu.haltOrBug_frozen (c : Cpu) (p : Bool) : (c.haltOrBug p).frozen = c.frozen := by
  unfold Cpu.haltOrBug
  split <;> rfl

@[simp] theorem Cpu.stopOrBug_frozen (c : Cpu) (p : Bool) : (c.stopOrBug p).frozen = c.frozen := by
  unfold Cpu.stopOrBug
  split <;> rfl

theorem State.write8_frozen (s : State) (a : Word) (v : Byte) : (s.write8 a v).cpu.frozen = s.cpu.frozen := by
  rw [State.write8_cpu]

theorem State.writeOpd_frozen (s : State) (o : Opd8) (v : Byte) : (s.writeOpd o v).cpu.frozen = s.cpu.frozen := by
  cases o with
  | reg r => exact s.cpu.setReg_frozen r v
  | memHL => exact s.write8_frozen _ _

theorem State.push16_frozen (s : State) (v : Word) : (s.push16 v).cpu.frozen = s.cpu.frozen := by
  rw [State.push16_cpu]

theorem State.call_frozen (s : State) (a : Word) : (s.call a).cpu.frozen = s.cpu.frozen := by
  unfold State.call State.jump
  rw [State.setCpu_cpu]
  exact s.push16_frozen _

/-- The outcome is a next state with the freeze bit of `s`. -/
def FrozenKept (s : State) (r : Result) : Prop := ∃ t, r = .next t ∧ t.cpu.frozen = s.cpu.frozen

theorem frozenKept_cost {s t : State} (h : t.cpu.frozen = s.cpu.frozen) (n : Nat) : FrozenKept s (.next (t.cost n)) :=
  ⟨_, rfl, h⟩

theorem frozenKept_setCpu {s t : State} {c : Cpu} (h : c.frozen = s.cpu.frozen) (n : Nat) :
    FrozenKept s (.next ((t.setCpu c).cost n)) := frozenKept_cost h n

theorem frozenKept_storeAccStep (d : Word) (s : State) : FrozenKept s (storeAccStep d s) :=
  frozenKept_setCpu ((Cpu.setHL_frozen _ _).trans (s.write8_frozen _ _)) 2

theorem frozenKept_memResult (o : AluOut) (s : State) : FrozenKept s (memResult o s) :=
  frozenKept_setCpu ((Cpu.setFlags_frozen _ _).trans (s.write8_frozen _ _)) 3

theorem frozenKept_stepPair (p : Reg16) (d : Word) (s : State) : FrozenKept s (stepPair p d s) :=
  frozenKept_cost (s.cpu.setPair_frozen p _) _

theorem frozenKept_rotOpd (op : RotOp) (o : Opd8) (s : State) : FrozenKept s (rotOpd op o s) :=
  frozenKept_setCpu ((Cpu.setFlags_frozen _ _).trans (s.writeOpd_frozen o _)) _

theorem frozenKept_resOpd (y : Fin 8) (o : Opd8) (s : State) : FrozenKept s (resOpd y o s) :=
  frozenKept_cost (s.writeOpd_frozen o _) _

theorem frozenKept_setOpd (y : Fin 8) (o : Opd8) (s : State) : FrozenKept s (setOpd y o s) :=
  frozenKept_cost (s.writeOpd_frozen o _) _

theorem frozenKept_jumpIf (k : Cond) (nn : Word) (s : State) : FrozenKept s (jumpIf k nn s) := by
  unfold jumpIf
  split <;> exact frozenKept_cost rfl _

theorem frozenKept_jumpRelIf (k : Cond) (e : Byte) (s : State) : FrozenKept s (jumpRelIf k e s) := by
  unfold jumpRelIf
  split <;> exact frozenKept_cost rfl _

theorem frozenKept_retIf (k : Cond) (s : State) : FrozenKept s (retIf k s) := by
  unfold retIf
  split <;> exact frozenKept_cost rfl _

theorem frozenKept_callTo (a : Word) (n : Nat) (s : State) : FrozenKept s (callTo a n s) :=
  frozenKept_cost (s.call_frozen a) n

theorem frozenKept_callIf (k : Cond) (nn : Word) (s : State) : FrozenKept s (callIf k nn s) := by
  unfold callIf
  split
  · exact frozenKept_cost (s.call_frozen nn) 6
  · exact frozenKept_cost rfl 3

theorem frozenKept_execCB (op2 : Byte) (s : State) : FrozenKept s (execCB op2 s) := by
  unfold execCB
  split
  · exact frozenKept_rotOpd _ _ s
  · exact frozenKept_cost rfl _
  · exact frozenKept_resOpd _ _ s
  · exact frozenKept_setOpd _ _ s

/-- The row of the byte `CB` alone runs the `CB` map after one more fetch (R276). -/
theorem frozenKept_prefixCB (s : State) : FrozenKept s (execPrefixCB s) := by
  obtain ⟨t, h, ht⟩ := frozenKept_execCB s.fetch8.1 s.fetch8.2
  exact ⟨t, h, ht.trans s.cpu.afterFetch_frozen⟩

/-- Every instruction keeps the freeze bit, except the 11 undefined opcodes (R30, R281). A row that only writes CPU
registers keeps it by definition; the rows named here step a pair, store to the bus, push, or have two outcomes. -/
theorem exec_frozenKept (i : Instr) (s : State) : FrozenKept s (exec i s) ∨ ∃ op, i = .illegal op := by
  cases i
  case illegalD3 => exact .inr ⟨.d3, rfl⟩
  case illegalDB => exact .inr ⟨.db, rfl⟩
  case illegalDD => exact .inr ⟨.dd, rfl⟩
  case illegalE3 => exact .inr ⟨.e3, rfl⟩
  case illegalE4 => exact .inr ⟨.e4, rfl⟩
  case illegalEB => exact .inr ⟨.eb, rfl⟩
  case illegalEC => exact .inr ⟨.ec, rfl⟩
  case illegalED => exact .inr ⟨.ed, rfl⟩
  case illegalF4 => exact .inr ⟨.f4, rfl⟩
  case illegalFC => exact .inr ⟨.fc, rfl⟩
  case illegalFD => exact .inr ⟨.fd, rfl⟩
  all_goals left
  case halt => exact frozenKept_cost (s.cpu.haltOrBug_frozen _) _
  case stop => exact frozenKept_cost (s.cpu.stopOrBug_frozen _) _
  case prefixCB => exact frozenKept_prefixCB s
  case incBC | incDE | incHL | incSP | decBC | decDE | decHL | decSP => exact frozenKept_stepPair _ _ s
  case ldMemBCA | ldMemDEA | ldMemHLImm8 | ldMemHLB | ldMemHLC | ldMemHLD | ldMemHLE | ldMemHLH | ldMemHLL | ldMemHLA
      | ldhMemImm8A | ldhMemCA | ldMemImm16A => exact frozenKept_cost (s.write8_frozen _ _) _
  case ldMemHLIncA | ldMemHLDecA => exact frozenKept_storeAccStep _ s
  case incMemHL | decMemHL => exact frozenKept_memResult _ s
  case ldMemImm16SP => exact frozenKept_cost ((State.write8_frozen _ _ _).trans (s.write8_frozen _ _)) _
  case pushBC | pushDE | pushHL | pushAF => exact frozenKept_cost (s.push16_frozen _) _
  case rst00 | rst08 | rst10 | rst18 | rst20 | rst28 | rst30 | rst38 | callImm16 => exact frozenKept_callTo _ _ s
  case jrNZRel | jrZRel | jrNCRel | jrCRel => exact frozenKept_jumpRelIf _ _ s
  case jpNZImm16 | jpZImm16 | jpNCImm16 | jpCImm16 => exact frozenKept_jumpIf _ _ s
  case callNZImm16 | callZImm16 | callNCImm16 | callCImm16 => exact frozenKept_callIf _ _ s
  case retNZ | retZ | retNC | retC => exact frozenKept_retIf _ s
  case rlcMemHL | rrcMemHL | rlMemHL | rrMemHL | slaMemHL | sraMemHL | swapMemHL | srlMemHL =>
    exact frozenKept_rotOpd _ .memHL s
  case res0MemHL | res1MemHL | res2MemHL | res3MemHL | res4MemHL | res5MemHL | res6MemHL | res7MemHL =>
    exact frozenKept_resOpd _ .memHL s
  case set0MemHL | set1MemHL | set2MemHL | set3MemHL | set4MemHL | set5MemHL | set6MemHL | set7MemHL =>
    exact frozenKept_setOpd _ .memHL s
  all_goals exact frozenKept_cost rfl _

/-- What a cold reset leaves in the CPU registers (R600, R601). -/
theorem State.hostReset_cpu (k : SysclkReset) (s : State) : (s.hostReset k).cpu = Cpu.cold := State.setDraws_cpu _ _

/-- Settles O8: only the undefined opcodes write the freeze bit, the reset clears it, and a frozen step is the
identity. -/
theorem freezeBit : Obligations.FreezeBit := by
  refine ⟨rfl, fun k s => congrArg Cpu.frozen (s.hostReset_cpu k), fun op s => ⟨_, exec_illegal op s, rfl⟩, ?_,
    fun s hs => if_pos hs⟩
  intro i s t ht hfrozen
  refine (exec_frozenKept i s).imp_left ?_
  rintro ⟨u, hu, hkept⟩
  obtain rfl : t = u := Host.Outcome.next.inj (ht.symm.trans hu)
  exact hkept ▸ hfrozen

end Sys2Proof.Machine
end

section
/-! PROOFS. The memory map (20_memory.md): the reads and writes of the bus by address, everything a bus write can
change, and the invariants of the memory and of the cartridge that every step keeps. -/

set_option Elab.async false

namespace Sys2Proof.Machine

/-! The address map (R60) and the device register map (R34), read from the address to the location and back. -/

theorem regionOf_wram {a : Word} (h : 0xC000 ≤ a.toNat ∧ a.toNat < 0xE000) : regionOf a = .wram := by
  unfold regionOf
  iterate 3 rw [if_neg (by omega)]
  exact if_pos h.2

theorem regionOf_echo_iff (a : Word) : regionOf a = .echo ↔ 0xE000 ≤ a.toNat ∧ a.toNat < 0xFE00 := by
  constructor
  · intro h
    have hcases := regionOf_cases a
    rw [h] at hcases
    simpa using hcases
  · rintro ⟨hlow, hhigh⟩
    unfold regionOf
    iterate 4 rw [if_neg (by omega)]
    exact if_pos hhigh

theorem regionOf_unusable {a : Word} (h : 0xFEA0 ≤ a.toNat ∧ a.toNat < 0xFF00) : regionOf a = .unusable := by
  unfold regionOf
  iterate 6 rw [if_neg (by omega)]
  exact if_pos h.2

theorem regionOf_io {a : Word} (h : 0xFF00 ≤ a.toNat ∧ a.toNat < 0xFF80) : regionOf a = .io := by
  unfold regionOf
  iterate 7 rw [if_neg (by omega)]
  exact if_pos h.2

theorem regionOf_hram_iff (a : Word) : regionOf a = .hram ↔ 0xFF80 ≤ a.toNat ∧ a.toNat < 0xFFFF := by
  constructor
  · intro h
    have hcases := regionOf_cases a
    rw [h] at hcases
    simpa using hcases
  · rintro ⟨hlow, hhigh⟩
    unfold regionOf
    iterate 8 rw [if_neg (by omega)]
    exact if_pos hhigh

theorem cellOf_of_echo {a : Word} (h : regionOf a = .echo) : cellOf a = a.toNat - 0x2000 := if_pos h

theorem cellOf_of_ne_echo {a : Word} (h : regionOf a ≠ .echo) : cellOf a = a.toNat := if_neg h

/-- A mapped location is wave RAM or a row of the device register map. -/
theorem ioReg_cases {a : Word} {r : IoReg} (h : ioReg a = some r) :
    (r = .wave ∧ 0xFF30 ≤ a.toNat ∧ a.toNat ≤ 0xFF3F) ∨ (a.toNat, r) ∈ ioTable := by
  unfold ioReg at h
  split at h
  · next hwave => exact .inl ⟨(Option.some.inj h).symm, hwave⟩
  · obtain ⟨l₁, l₂, hl, -⟩ := List.lookup_eq_some_iff.mp h
    exact .inr (hl ▸ List.mem_append_right l₁ List.mem_cons_self)

theorem mem_ioTable_of_ioReg {a : Word} {r : IoReg} (h : ioReg a = some r) (hr : r ≠ .wave) :
    (a.toNat, r) ∈ ioTable :=
  (ioReg_cases h).resolve_left fun hwave => hr hwave.1

theorem ne_wave_of_mem_ioTable : ∀ row ∈ ioTable, row.2 ≠ .wave := by decide

theorem wave_bounds_of_ioReg {a : Word} (h : ioReg a = some .wave) : 0xFF30 ≤ a.toNat ∧ a.toNat ≤ 0xFF3F := by
  obtain ⟨-, hb⟩ | hm := ioReg_cases h
  · exact hb
  · exact absurd rfl (ne_wave_of_mem_ioTable _ hm)

/-- The address at which the device register map (R34) lists a location. -/
def IoReg.address (r : IoReg) : Nat := ((ioTable.map Prod.swap).lookup r).getD 0

theorem IoReg.address_of_mem_ioTable : ∀ row ∈ ioTable, row.2.address = row.1 := by decide

theorem toNat_eq_address_of_ioReg {a : Word} {r : IoReg} (h : ioReg a = some r) (hr : r ≠ .wave) :
    a.toNat = r.address :=
  (IoReg.address_of_mem_ioTable _ (mem_ioTable_of_ioReg h hr)).symm

theorem IoReg.address_apu (r : ApuReg) : 0xFF10 ≤ (IoReg.apu r).address ∧ (IoReg.apu r).address ≤ 0xFF26 := by
  cases r <;> decide

theorem IoReg.address_ppu (r : PpuReg) : 0xFF40 ≤ (IoReg.ppu r).address ∧ (IoReg.ppu r).address ≤ 0xFF4B := by
  cases r <;> decide

/-- Outside the device register map and wave RAM an address of `FF00–FF7F` is unmapped (R70). -/
theorem ioReg_eq_none {a : Word} (hw : ¬(0xFF30 ≤ a.toNat ∧ a.toNat ≤ 0xFF3F))
    (h : ∀ row ∈ ioTable, row.1 ≠ a.toNat) : ioReg a = none := by
  cases hr : ioReg a with
  | none => rfl
  | some r =>
    obtain ⟨-, hb⟩ | hm := ioReg_cases hr
    · exact absurd hb hw
    · exact absurd rfl (h _ hm)

/-! What a bus write can do to the cartridge. -/

theorem bankOrOne_ne_zero {n : Nat} (hn : 0 < n) (b : BitVec n) : bankOrOne b ≠ 0 := by
  unfold bankOrOne
  split
  · exact fun h => hn.ne' (BitVec.one_eq_zero_iff.mp h)
  · assumption

/-- `d` comes from `c` by what one bus write can change in a cartridge (R524, R525, R531 to R535, R539, R540, R544 to
R548): one control register, the latched clock, or one byte of RAM. -/
inductive Cart.WriteEffect (c : Cart) : Cart → Prop where
  | none : WriteEffect c c
  | ramEnable (b : Bool) : WriteEffect c { c with ramEnable := b }
  | romBankLo (b : BitVec 5) : WriteEffect c { c with romBankLo := bankOrOne b }
  | bankHi (b : BitVec 2) : WriteEffect c { c with bankHi := b }
  | mode (b : Bool) : WriteEffect c { c with mode := b }
  | romBank2 (b : BitVec 4) : WriteEffect c { c with romBank2 := bankOrOne b }
  | romBank3 (b : BitVec 7) : WriteEffect c { c with romBank3 := bankOrOne b }
  | ramBankOrRtc (b : BitVec 4) : WriteEffect c { c with ramBankOrRtc := b }
  | clock (r : RtcRegs) (v : Byte) : WriteEffect c { c with rtc := r, rtcLatchPrev := v }
  | ramByte (i : Nat) (v : Byte) : WriteEffect c { c with ram := Memory.write c.ram i v }

theorem Cart.writeMbc1_effect (c : Cart) (a : Nat) (v : Byte) : c.WriteEffect (c.writeMbc1 a v) := by
  unfold Cart.writeMbc1
  split_ifs
  · exact .ramEnable _
  · exact .romBankLo _
  · exact .bankHi _
  · exact .mode _

theorem Cart.writeMbc2_effect (c : Cart) (a : Nat) (v : Byte) : c.WriteEffect (c.writeMbc2 a v) := by
  unfold Cart.writeMbc2
  split_ifs
  · exact .romBank2 _
  · exact .ramEnable _
  · exact .none

theorem Cart.writeMbc3_effect (c : Cart) (a : Nat) (v : Byte) (now : RtcTime) :
    c.WriteEffect (c.writeMbc3 a v now) := by
  unfold Cart.writeMbc3
  split_ifs
  · exact .ramEnable _
  · exact .romBank3 _
  · exact .ramBankOrRtc _
  · exact .clock _ _
  · exact .clock c.rtc _

theorem Cart.writeControl_effect (c : Cart) (a : Nat) (v : Byte) (now : RtcTime) :
    c.WriteEffect (c.writeControl a v now) := by
  unfold Cart.writeControl
  split
  · exact .none
  · exact c.writeMbc1_effect a v
  · exact c.writeMbc2_effect a v
  · exact c.writeMbc3_effect a v now

theorem Cart.writeRam_effect (c : Cart) (a : Nat) (v : Byte) : c.WriteEffect (c.writeRam a v) := by
  unfold Cart.writeRam
  split
  · exact .none
  · exact .ramByte _ _
  · exact .ramByte _ _
  · exact .clock _ c.rtcLatchPrev

/-- `d` has the ROM and the other constants of `c` (R520). -/
def Cart.SameConstants (c d : Cart) : Prop :=
  d.rom = c.rom ∧ d.kind = c.kind ∧ d.romBanks = c.romBanks ∧ d.ramSize = c.ramSize ∧
  d.hasBattery = c.hasBattery ∧ d.hasRtc = c.hasRtc

theorem Cart.SameConstants.trans {c d e : Cart} (h : c.SameConstants d) (g : d.SameConstants e) :
    c.SameConstants e := by
  obtain ⟨h1, h2, h3, h4, h5, h6⟩ := h
  obtain ⟨g1, g2, g3, g4, g5, g6⟩ := g
  exact ⟨g1.trans h1, g2.trans h2, g3.trans h3, g4.trans h4, g5.trans h5, g6.trans h6⟩

theorem Cart.WriteEffect.sameConstants {c d : Cart} (h : c.WriteEffect d) : c.SameConstants d := by
  cases h <;> exact ⟨rfl, rfl, rfl, rfl, rfl, rfl⟩

/-- A write changes a bank register of the high window only to a value that is not 0 (R532, R539, R545). -/
theorem Cart.WriteEffect.banks_ne_zero {c d : Cart} (h : c.WriteEffect d)
    (hc : c.romBankLo ≠ 0 ∧ c.romBank2 ≠ 0 ∧ c.romBank3 ≠ 0) :
    d.romBankLo ≠ 0 ∧ d.romBank2 ≠ 0 ∧ d.romBank3 ≠ 0 := by
  obtain ⟨h1, h2, h3⟩ := hc
  cases h with
  | romBankLo b => exact ⟨bankOrOne_ne_zero (by decide) b, h2, h3⟩
  | romBank2 b => exact ⟨h1, bankOrOne_ne_zero (by decide) b, h3⟩
  | romBank3 b => exact ⟨h1, h2, bankOrOne_ne_zero (by decide) b⟩
  | _ => exact ⟨h1, h2, h3⟩

theorem Cart.WriteEffect.ram_wf {c d : Cart} (h : c.WriteEffect d) (hc : Memory.wf c.ram) : Memory.wf d.ram := by
  cases h with
  | ramByte i v => exact Memory.wf_write i v hc
  | _ => exact hc

/-! What a bus write can do to the machine. -/

/-- `t` comes from `s` by what a bus write at `a` can change (R62 to R72, R75, R79): nothing, the byte of storage that
the address names, the cartridge, or the device whose register stands at the address. -/
inductive State.WriteEffect (s : State) (a : Word) : State → Prop where
  | none : WriteEffect s a s
  | byte (v : Byte) (ha : a ≠ 0xFF46) : WriteEffect s a (s.poke (cellOf a) v)
  | cart {c : Cart} (d : Nat) (ha : a.toNat < 0x8000 ∨ (0xA000 ≤ a.toNat ∧ a.toNat < 0xC000))
      (hc : s.cart.WriteEffect c) : WriteEffect s a ((s.setCart c).setDraws d)
  | irq (q : Irq) (ha : a = 0xFF0F ∨ a = 0xFFFF) : WriteEffect s a (s.setIrq q)
  | joypad (j : Joypad) (m : BitVec 5) (ha : a = 0xFF00) : WriteEffect s a ((s.setJoypad j).request m)
  | serial (p : Serial) (ha : a = 0xFF01 ∨ a = 0xFF02) : WriteEffect s a (s.setSerial p)
  | div (t : Timer) (x : Apu) (ha : a = 0xFF04) : WriteEffect s a ((s.setTimer t).setApu x)
  | timer (t : Timer) (ha : 0xFF05 ≤ a.toNat ∧ a.toNat ≤ 0xFF07) : WriteEffect s a (s.setTimer t)
  | apu (x : Apu) (ha : 0xFF10 ≤ a.toNat ∧ a.toNat ≤ 0xFF26) : WriteEffect s a (s.setApu x)
  | ppu (p : Ppu) (ha : 0xFF40 ≤ a.toNat ∧ a.toNat ≤ 0xFF4B) : WriteEffect s a (s.setPpu p)
  | stat (p : Ppu) (m : BitVec 5) (ha : a = 0xFF40 ∨ a = 0xFF41 ∨ a = 0xFF45) :
      WriteEffect s a ((s.setPpu p).request m)
  | dma (p : Ppu) (m : List Host.Cell) (ha : a = 0xFF46)
      (hm : ∀ b, b < 0xFE00 ∨ 0xFEA0 ≤ b → Memory.read m b = Memory.read s.mem b) :
      WriteEffect s a ((s.setPpu p).setMem m)

/-- The OAM DMA loop writes only the bytes of OAM that it has left to copy. -/
theorem State.dmaLoop_read_outside {n i b : Nat} (page : Byte) (s : State)
    (hb : b < 0xFE00 + i ∨ 0xFE00 + i + n ≤ b) :
    Memory.read (State.dmaLoop n i page s).mem b = Memory.read s.mem b := by
  induction n generalizing i s with
  | zero => rfl
  | succ n ih => rw [State.dmaLoop, ih _ (by omega), State.poke_mem, Memory.read_write_other _ _ (by omega)]

/-- OAM DMA stores the page in `DMA` and changes nothing else but the memory. -/
theorem State.oamDma_eq (s : State) (v : Byte) :
    s.oamDma v = (s.setPpu { s.ppu with dma := v }).setMem (s.oamDma v).mem := State.dmaLoop_eq 160 0 v _

/-- The PPU registers whose write can move the STAT line (R401, R402, R405) are the ones that can request. -/
theorem Ppu.write_request_zero (p : Ppu) {r : PpuReg} (v : Byte) (h : r ≠ .lcdc ∧ r ≠ .stat ∧ r ≠ .lyc) :
    (p.write r v).2 = 0 := by
  obtain ⟨h1, h2, h3⟩ := h
  cases r
  case lcdc => exact absurd rfl h1
  case stat => exact absurd rfl h2
  case lyc => exact absurd rfl h3
  all_goals rfl

theorem State.writePpu_effect {a : Word} {r : PpuReg} (ha : a.toNat = (IoReg.ppu r).address) (s : State) (v : Byte) :
    s.WriteEffect a ((s.setPpu (s.ppu.write r v).1).request (s.ppu.write r v).2) := by
  by_cases h : r ≠ .lcdc ∧ r ≠ .stat ∧ r ≠ .lyc
  · rw [s.ppu.write_request_zero v h, State.request_zero]
    exact .ppu _ (ha ▸ IoReg.address_ppu r)
  · refine .stat _ _ ?_
    cases r
    case lcdc => exact .inl (BitVec.eq_of_toNat_eq ha)
    case stat => exact .inr (.inl (BitVec.eq_of_toNat_eq ha))
    case lyc => exact .inr (.inr (BitVec.eq_of_toNat_eq ha))
    all_goals exact absurd (by decide) h

theorem State.writeIo_effect {a : Word} {r : IoReg} (hr : ioReg a = some r) (s : State) (v : Byte) :
    s.WriteEffect a (s.writeIo a r v) := by
  have address : r ≠ .wave → a.toNat = r.address := toNat_eq_address_of_ioReg hr
  cases r with
  | wave =>
    have hbounds := wave_bounds_of_ioReg hr
    have hcell : cellOf a = a.toNat := cellOf_of_ne_echo (regionOf_of_wave hbounds ▸ nofun)
    show s.WriteEffect a (s.poke a.toNat v)
    exact hcell ▸ .byte v (fun h => absurd hbounds (h ▸ by decide))
  | p1 => exact .joypad _ _ (BitVec.eq_of_toNat_eq (address (by decide)))
  | sb => exact .serial _ (.inl (BitVec.eq_of_toNat_eq (address (by decide))))
  | sc => exact .serial _ (.inr (BitVec.eq_of_toNat_eq (address (by decide))))
  | div => exact .div _ _ (BitVec.eq_of_toNat_eq (address (by decide)))
  | tima => exact .timer _ (address (by decide) ▸ by decide)
  | tma => exact .timer _ (address (by decide) ▸ by decide)
  | tac => exact .timer _ (address (by decide) ▸ by decide)
  | iflag => exact .irq _ (.inl (BitVec.eq_of_toNat_eq (address (by decide))))
  | apu r => exact .apu _ (address nofun ▸ IoReg.address_apu r)
  | ppu r => exact s.writePpu_effect (address nofun) v
  | dma =>
    show s.WriteEffect a (s.oamDma v)
    rw [State.oamDma_eq]
    exact .dma _ _ (BitVec.eq_of_toNat_eq (address (by decide)))
      fun b hb => State.dmaLoop_read_outside v _ hb

/-- Everything a bus write can change, by the region of its address. -/
theorem State.write8_effect (s : State) (a : Word) (v : Byte) : s.WriteEffect a (s.write8 a v) := by
  have ne_dma : regionOf a ≠ .io → a ≠ 0xFF46 := fun h ha => h (ha ▸ rfl)
  have byte : regionOf a ≠ .io → regionOf a ≠ .echo → s.WriteEffect a (s.poke a.toNat v) := fun hio hecho =>
    cellOf_of_ne_echo hecho ▸ .byte v (ne_dma hio)
  unfold State.write8
  rcases regionOf_cases a with ⟨hr, hb⟩ | ⟨hr, hb⟩ | ⟨hr, hb⟩ | ⟨hr, hb⟩ | ⟨hr, hb⟩ | ⟨hr, hb⟩ | ⟨hr, hb⟩ | ⟨hr, hb⟩ |
    ⟨hr, hb⟩ | ⟨hr, hb⟩ <;> rw [hr] at byte ne_dma ⊢
  · exact .cart _ (.inl hb) (s.cart.writeControl_effect _ v _)
  · show s.WriteEffect a (if s.ppu.vramLocked then s else s.poke a.toNat v)
    split
    · exact .none
    · exact byte nofun nofun
  · exact .cart s.draws (.inr hb) (s.cart.writeRam_effect _ v)
  · exact byte nofun nofun
  · exact cellOf_of_echo hr ▸ .byte v (ne_dma nofun)
  · show s.WriteEffect a (if s.ppu.oamLocked then s else s.poke a.toNat v)
    split
    · exact .none
    · exact byte nofun nofun
  · exact .none
  · show s.WriteEffect a (s.writeIoPage a v)
    unfold State.writeIoPage
    split
    · next r hio => exact s.writeIo_effect hio v
    · exact .none
  · exact byte nofun nofun
  · exact .irq _ (.inr (BitVec.eq_of_toNat_eq hb))

theorem State.WriteEffect.toCart {s t : State} {a : Word} (h : s.WriteEffect a t) : s.cart.WriteEffect t.cart := by
  cases h with
  | cart d ha hc => exact hc
  | _ => exact .none

/-! The invariants of every step. -/

@[simp] theorem State.tick_mem (n : Nat) (s : State) : (State.tick n s).mem = s.mem :=
  State.tick_field State.mem (fun _ => rfl) n s

@[simp] theorem State.tick_cart (n : Nat) (s : State) : (State.tick n s).cart = s.cart :=
  State.tick_field State.cart (fun _ => rfl) n s

/-- Byte writes at storage addresses keep the canonical form and list storage bytes only. -/
theorem State.write8_memInv {s : State} (h : MemInv s) (a : Word) (v : Byte) : MemInv (s.write8 a v) := by
  refine State.write8_mem (P := fun m => Memory.wf m ∧ ∀ c ∈ m, isStorage c.1 = true) ?_ s a v h
  rintro m k w hk ⟨hwf, hm⟩
  refine ⟨Memory.wf_write k w hwf, fun c hc => ?_⟩
  rcases Memory.mem_write hc with rfl | hc
  · exact hk
  · exact hm c hc

/-- Settles O56: memory and cartridge RAM change only by byte writes, which keep the canonical form. -/
theorem stepKeepsMemory : Obligations.StepKeepsMemory := by
  intro s t hmem hram hstep
  refine step_keeps (P := fun u => MemInv u ∧ CartRamInv u) (fun _ _ h => h) (fun _ _ h => h) (fun _ _ h => h)
    (fun u a v ⟨hu, hr⟩ => ⟨State.write8_memInv hu a v, (u.write8_effect a v).toCart.ram_wf hr⟩) (fun u hu => ?_)
    ⟨hmem, hram⟩ hstep
  simpa [MemInv, CartRamInv] using hu

/-- Settles O60: a step reaches the cartridge only by bus writes, and none of these writes a constant or a bank
register that is 0. -/
theorem stepKeepsCartridge : Obligations.StepKeepsCartridge := by
  intro s t hstep
  have h : s.cart.SameConstants t.cart ∧ (BankInv s → BankInv t) := by
    refine step_keeps (P := fun u => s.cart.SameConstants u.cart ∧ (BankInv s → BankInv u)) (fun _ _ h => h)
      (fun _ _ h => h) (fun _ _ h => h) (fun u a v h => ?write) (fun u h => ?tick)
      ⟨⟨rfl, rfl, rfl, rfl, rfl, rfl⟩, id⟩ hstep
    case write =>
      obtain ⟨hconst, hbank⟩ := h
      have he := (u.write8_effect a v).toCart
      exact ⟨hconst.trans he.sameConstants, fun hs => he.banks_ne_zero (hbank hs)⟩
    case tick => simpa [BankInv] using h
  obtain ⟨⟨hrom, hkind, hbanks, hsize, hbattery, hrtc⟩, hbank⟩ := h
  exact ⟨hrom, hkind, hbanks, hsize, hbattery, hrtc, hbank⟩

/-! The frame of a bus write, one lemma for each part of the state. -/

section
variable {s t : State} {a : Word}

theorem State.WriteEffect.joypad_eq (h : s.WriteEffect a t) (ha : a ≠ 0xFF00) : t.joypad = s.joypad := by
  cases h with
  | joypad j m h => exact absurd h ha
  | _ => rfl

theorem State.WriteEffect.serial_eq (h : s.WriteEffect a t) (h1 : a ≠ 0xFF01) (h2 : a ≠ 0xFF02) :
    t.serial = s.serial := by
  cases h with
  | serial p h => exact (h.elim h1 h2).elim
  | _ => rfl

theorem State.WriteEffect.timer_eq (h : s.WriteEffect a t) (ha : a.toNat < 0xFF04 ∨ 0xFF07 < a.toNat) :
    t.timer = s.timer := by
  cases h with
  | div t x h => exact absurd ha (h ▸ by decide)
  | timer t h => omega
  | _ => rfl

theorem State.WriteEffect.ppu_eq (h : s.WriteEffect a t) (ha : a.toNat < 0xFF40 ∨ 0xFF4B < a.toNat) :
    t.ppu = s.ppu := by
  cases h with
  | ppu p h => omega
  | stat p m h => rcases h with rfl | rfl | rfl <;> exact absurd ha (by decide)
  | dma p m h => exact absurd ha (h ▸ by decide)
  | _ => rfl

theorem State.WriteEffect.apu_eq (h : s.WriteEffect a t) (hdiv : a ≠ 0xFF04)
    (ha : a.toNat < 0xFF10 ∨ 0xFF26 < a.toNat) : t.apu = s.apu := by
  cases h with
  | div t x h => exact absurd h hdiv
  | apu x h => omega
  | _ => rfl

theorem State.WriteEffect.cart_eq (h : s.WriteEffect a t) (hrom : 0x8000 ≤ a.toNat)
    (hram : a.toNat < 0xA000 ∨ 0xC000 ≤ a.toNat) : t.cart = s.cart := by
  cases h with
  | cart d h hc => omega
  | _ => rfl

theorem State.WriteEffect.irq_eq (h : s.WriteEffect a t) (hp1 : a ≠ 0xFF00) (hif : a ≠ 0xFF0F)
    (hlcdc : a ≠ 0xFF40) (hstat : a ≠ 0xFF41) (hlyc : a ≠ 0xFF45) (hie : a ≠ 0xFFFF) : t.irq = s.irq := by
  cases h with
  | irq q h => exact (h.elim hif hie).elim
  | joypad j m h => exact absurd h hp1
  | stat p m h => exact (h.elim hlcdc (fun h => h.elim hstat hlyc)).elim
  | _ => rfl

theorem State.WriteEffect.read_mem_eq (h : s.WriteEffect a t) (ha : a ≠ 0xFF46) {b : Nat}
    (hb : b ≠ cellOf a) : Memory.read t.mem b = Memory.read s.mem b := by
  cases h with
  | byte v h => exact Memory.read_write_other _ v hb
  | dma p m h => exact absurd h ha
  | _ => rfl

theorem State.WriteEffect.read_mem_dma (h : s.WriteEffect a t) (ha : a = 0xFF46) {b : Nat}
    (hb : b < 0xFE00 ∨ 0xFEA0 ≤ b) : Memory.read t.mem b = Memory.read s.mem b := by
  cases h with
  | byte v h => exact absurd ha h
  | dma p m h hm => exact hm b hb
  | _ => rfl

end

/-- Settles O31, from the one inversion of the bus write. -/
theorem storeFrame : Obligations.StoreFrame := by
  intro s a v t
  have h : s.WriteEffect a t := s.write8_effect a v
  obtain ⟨hcpu, hcycles⟩ := s.write8_kept a v
  obtain ⟨hrom, hkind, hbanks, hsize, hbattery, hrtc⟩ := h.toCart.sameConstants
  exact ⟨hcpu, hcycles, hrom, hkind, hbanks, hsize, hbattery, hrtc, h.joypad_eq, h.serial_eq, h.timer_eq, h.ppu_eq,
    h.apu_eq, h.cart_eq, h.irq_eq, fun ha _ => h.read_mem_eq ha, fun ha _ => h.read_mem_dma ha⟩

/-! Reads and writes of storage. -/

theorem State.read8_of_vram {a : Word} (h : regionOf a = .vram) (s : State) :
    s.read8 a = if s.ppu.vramLocked then 0xFF else Memory.read s.mem a.toNat := by
  unfold State.read8 State.readBus
  rw [h]
  rfl

theorem State.write8_of_vram {a : Word} (h : regionOf a = .vram) (s : State) (v : Byte) :
    s.write8 a v = if s.ppu.vramLocked then s else s.poke a.toNat v := by
  unfold State.write8
  rw [h]

theorem State.read8_of_oam {a : Word} (h : regionOf a = .oam) (s : State) :
    s.read8 a = if s.ppu.oamLocked then 0xFF else Memory.read s.mem a.toNat := by
  unfold State.read8 State.readBus
  rw [h]
  rfl

theorem State.write8_of_oam {a : Word} (h : regionOf a = .oam) (s : State) (v : Byte) :
    s.write8 a v = if s.ppu.oamLocked then s else s.poke a.toNat v := by
  unfold State.write8
  rw [h]

/-- The address names a byte of storage that no lock holds: WRAM, its echo, HRAM, wave RAM, unlocked VRAM or OAM. -/
def State.Accessible (s : State) (a : Word) : Prop :=
  plainRam a = true ∨ (0xFF30 ≤ a.toNat ∧ a.toNat ≤ 0xFF3F) ∨ (regionOf a = .vram ∧ s.ppu.vramLocked = false) ∨
    (regionOf a = .oam ∧ s.ppu.oamLocked = false)

theorem plainRam_iff (a : Word) :
    plainRam a = true ↔ regionOf a = .wram ∨ regionOf a = .echo ∨ regionOf a = .hram := by
  simp [plainRam, or_assoc]

/-- An access at such an address is one of the byte that the address names. -/
theorem State.Accessible.access {s : State} {a : Word} (h : s.Accessible a) :
    s.read8 a = Memory.read s.mem (cellOf a) ∧ ∀ v, s.write8 a v = s.poke (cellOf a) v := by
  rcases h with h | h | ⟨hr, hl⟩ | ⟨hr, hl⟩
  · rcases (plainRam_iff a).mp h with hr | hr | hr <;>
      simp [State.read8, State.readBus, State.write8, cellOf, hr]
  · have hr := regionOf_of_wave h
    have hio : ioReg a = some .wave := if_pos h
    rw [cellOf_of_ne_echo (hr ▸ nofun), State.read8_of_ioReg hr hio]
    exact ⟨rfl, State.write8_of_ioReg hr hio s⟩
  · simp [State.read8_of_vram hr, State.write8_of_vram hr, cellOf, hr, hl]
  · simp [State.read8_of_oam hr, State.write8_of_oam hr, cellOf, hr, hl]

theorem State.Accessible.read8_eq {s : State} {a : Word} (h : s.Accessible a) :
    s.read8 a = Memory.read s.mem (cellOf a) := h.access.1

theorem State.Accessible.write8_eq {s : State} {a : Word} (h : s.Accessible a) (v : Byte) :
    s.write8 a v = s.poke (cellOf a) v := h.access.2 v

theorem State.readIo_poke_other {a : Word} {k : Nat} (h : a.toNat ≠ k) (s : State) (v : Byte) (r : IoReg) :
    (s.poke k v).readIo a r = s.readIo a r := by
  cases r
  case wave => exact Memory.read_write_other _ v h
  all_goals rfl

/-- A read sees at most the one byte of the memory that its address names, with and without the locks. -/
theorem State.readBus_poke_other {a : Word} {k : Nat} (h : cellOf a ≠ k) (s : State) (locked : Bool) (v : Byte) :
    (s.poke k v).readBus locked a = s.readBus locked a := by
  have hread (hr : regionOf a ≠ .echo) : Memory.read (s.poke k v).mem a.toNat = Memory.read s.mem a.toNat :=
    Memory.read_write_other _ v (cellOf_of_ne_echo hr ▸ h)
  unfold State.readBus
  cases hr : regionOf a with
  | rom | cartRam | unusable | ie => rfl
  | wram | hram => exact hread (hr ▸ nofun)
  | echo => exact Memory.read_write_other _ v (cellOf_of_echo hr ▸ h)
  | vram | oam => simp only [hread (hr ▸ nofun), State.poke_ppu]
  | io =>
    show (s.poke k v).readIoPage a = s.readIoPage a
    unfold State.readIoPage
    have hne : a.toNat ≠ k := cellOf_of_ne_echo (hr ▸ nofun : regionOf a ≠ .echo) ▸ h
    split
    · exact State.readIo_poke_other hne s v _
    · rfl

theorem State.Accessible.read8_write8_same {s : State} {a : Word} (h : s.Accessible a) (v : Byte) :
    (s.write8 a v).read8 a = v := by
  have hafter : (s.poke (cellOf a) v).Accessible a := h
  rw [h.write8_eq, hafter.read8_eq, State.poke_mem, Memory.read_write_same]

theorem State.Accessible.read8_write8_other {s : State} {a b : Word} (h : s.Accessible a) (v : Byte)
    (hb : cellOf b ≠ cellOf a) : (s.write8 a v).read8 b = s.read8 b := by
  rw [h.write8_eq]
  exact State.readBus_poke_other hb s true v

/-- Settles O32: each kind of address reads and writes the one byte that it names. -/
theorem storeReadsBack : Obligations.StoreReadsBack := by
  intro s a v h
  have hacc : s.Accessible a := h
  exact ⟨hacc.read8_write8_same v, fun b _ hb => hacc.read8_write8_other v hb⟩

/-! OAM DMA (R75). -/

/-- The address of byte `i` of a page. -/
theorem page_add_eq_append (page : Byte) {i : Nat} (hi : i < 256) :
    hiLo page 0 + BitVec.ofNat 16 i = page ++ BitVec.ofNat 8 i := by
  apply BitVec.eq_of_toNat_eq
  have := page.isLt
  simp only [BitVec.toNat_add, hiLo_toNat, toNat_append_eq, BitVec.toNat_ofNat, BitVec.ofNat_eq_ofNat]
  omega

/-- Byte `j` of a page is no byte `i` of OAM for another `i`: the copy never reads what it has written. -/
theorem cellOf_page_ne_oam (page : Byte) {i j : Nat} (hij : i < j) (hj : j < 160) :
    cellOf (hiLo page 0 + BitVec.ofNat 16 j) ≠ 0xFE00 + i := by
  have := page.isLt
  have haddr : (hiLo page 0 + BitVec.ofNat 16 j).toNat = page.toNat * 256 + j := by
    rw [page_add_eq_append page (by omega), toNat_append_eq, BitVec.toNat_ofNat]
    omega
  unfold cellOf
  split <;> omega

/-- What the OAM DMA loop leaves in the bytes that it copies. -/
theorem State.dmaLoop_read_copied {n i j : Nat} (page : Byte) (s : State) (hn : i + n ≤ 160) (hi : i ≤ j)
    (hj : j < i + n) : Memory.read (State.dmaLoop n i page s).mem (0xFE00 + j) =
      s.rawRead (hiLo page 0 + BitVec.ofNat 16 j) := by
  induction n generalizing i s with
  | zero => omega
  | succ n ih =>
    rw [State.dmaLoop]
    by_cases hij : i = j
    · subst hij
      rw [State.dmaLoop_read_outside page _ (.inl (by omega)), State.poke_mem, Memory.read_write_same]
    · rw [ih _ (by omega) (by omega) (by omega)]
      exact State.readBus_poke_other (cellOf_page_ne_oam page (by omega) (by omega)) s false _

/-- Settles O36: byte `i` of the page is read before any OAM byte that the read could name has been written. -/
theorem oamDmaCopies : Obligations.OamDmaCopies := by
  intro s v t
  have ht : t = s.oamDma v := State.write8_of_ioReg (a := 0xFF46) (r := .dma) rfl rfl s v
  rw [ht]
  refine ⟨s.oamDma_eq v, fun i hi => ?_, fun b hb => State.dmaLoop_read_outside v _ hb⟩
  rw [← page_add_eq_append v (by omega)]
  exact State.dmaLoop_read_copied v _ (by decide) i.zero_le (by omega)

/-! HRAM (R71). -/

/-- No other address names a byte of HRAM: the echo lies below it. -/
theorem cellOf_ne_of_hram {a b : Word} (ha : regionOf a = .hram) (hb : b ≠ a) : cellOf b ≠ cellOf a := by
  obtain ⟨hlow, -⟩ := (regionOf_hram_iff a).mp ha
  rw [cellOf_of_ne_echo (ha ▸ nofun : regionOf a ≠ .echo)]
  by_cases hecho : regionOf b = .echo
  · have := ((regionOf_echo_iff b).mp hecho).2
    rw [cellOf_of_echo hecho]
    omega
  · rw [cellOf_of_ne_echo hecho]
    exact fun h => hb (BitVec.eq_of_toNat_eq h)

/-- Settles O33: HRAM is plain RAM, and no other address names a byte of it. -/
theorem hramReadsBack : Obligations.HramReadsBack := by
  refine ⟨fun a => ?_, fun a ha => ?_, fun s a v ha => ?_⟩
  · rw [regionOf_hram_iff]
    omega
  · exact State.cold_ram _ _ a (.inl ((plainRam_iff a).mpr (.inr (.inr ha))))
  · have hacc : s.Accessible a := .inl ((plainRam_iff a).mpr (.inr (.inr ha)))
    refine ⟨hacc.read8_write8_same v, ?_, fun b hb => hacc.read8_write8_other v ?_⟩
    · rw [hacc.write8_eq]
      rfl
    · exact cellOf_ne_of_hram ha hb

/-! Locked, unmapped and echoed addresses (R64, R67 to R70, R73). -/

/-- Nothing stands at an address of `FEA0–FEFF` or at an unmapped one of `FF00–FF7F` (R69, R70). -/
theorem State.access_of_unmapped {a : Word} (h : regionOf a = .unusable ∨ (regionOf a = .io ∧ ioReg a = none))
    (s : State) (v : Byte) : s.read8 a = 0xFF ∧ s.write8 a v = s := by
  unfold State.read8 State.readBus State.write8
  rcases h with h | ⟨h, hnone⟩ <;> rw [h]
  · exact ⟨rfl, rfl⟩
  · show s.readIoPage a = 0xFF ∧ s.writeIoPage a v = s
    unfold State.readIoPage State.writeIoPage
    rw [hnone]
    exact ⟨rfl, rfl⟩

/-- The gaps in the device register map (R70). -/
theorem ioTable_gaps : ∀ row ∈ ioTable, row.1 ≠ 0xFF03 ∧ ¬(0xFF08 ≤ row.1 ∧ row.1 ≤ 0xFF0E) ∧ row.1 ≠ 0xFF15 ∧
    row.1 ≠ 0xFF1F ∧ ¬(0xFF27 ≤ row.1 ∧ row.1 ≤ 0xFF2F) ∧ ¬(0xFF4C ≤ row.1 ∧ row.1 ≤ 0xFF7F) := by decide

theorem unmapped_of_gap {a : Word}
    (h : a = 0xFF03 ∨ (0xFF08 ≤ a.toNat ∧ a.toNat ≤ 0xFF0E) ∨ a = 0xFF15 ∨ a = 0xFF1F ∨
      (0xFF27 ≤ a.toNat ∧ a.toNat ≤ 0xFF2F) ∨ (0xFF4C ≤ a.toNat ∧ a.toNat ≤ 0xFF7F)) :
    regionOf a = .io ∧ ioReg a = none := by
  refine ⟨regionOf_io (by bv_omega), ioReg_eq_none (by bv_omega) fun row hrow hne => ?_⟩
  have := ioTable_gaps row hrow
  bv_omega

/-- An access in the echo is the access 8 KiB below (R67). -/
theorem State.access_of_echo {a : Word} (h : regionOf a = .echo) (s : State) (v : Byte) :
    s.read8 a = s.read8 (a - 0x2000) ∧ s.write8 a v = s.write8 (a - 0x2000) v := by
  obtain ⟨hlow, hhigh⟩ := (regionOf_echo_iff a).mp h
  have hsub : (a - 0x2000).toNat = a.toNat - 0x2000 := by bv_omega
  have hwram : regionOf (a - 0x2000) = .wram := regionOf_wram (by omega)
  have hbelow : s.Accessible (a - 0x2000) := .inl ((plainRam_iff _).mpr (.inl hwram))
  have hacc : s.Accessible a := .inl ((plainRam_iff a).mpr (.inr (.inl h)))
  have hcell : cellOf (a - 0x2000) = cellOf a := by
    rw [cellOf_of_echo h, cellOf_of_ne_echo (hwram ▸ nofun), hsub]
  rw [hbelow.read8_eq, hbelow.write8_eq, hcell]
  exact ⟨hacc.read8_eq, hacc.write8_eq v⟩

theorem Ppu.vramLocked_eq_true {p : Ppu} (hon : p.lcdc.getLsbD 7 = true) (hmode : p.mode = .draw) :
    p.vramLocked = true := by
  simp only [Ppu.vramLocked, Ppu.lcdOn, bit_eq, hon, hmode]
  rfl

theorem Ppu.vramLocked_eq_false {p : Ppu} (h : p.lcdc.getLsbD 7 = false ∨ p.mode ≠ .draw) : p.vramLocked = false := by
  unfold Ppu.vramLocked Ppu.lcdOn
  rw [bit_eq]
  rcases h with h | h
  · rw [h, Bool.false_and]
  · rw [beq_false_of_ne h, Bool.and_false]

theorem Ppu.oamLocked_eq_true {p : Ppu} (hon : p.lcdc.getLsbD 7 = true)
    (hmode : p.mode = .oamScan ∨ p.mode = .draw) : p.oamLocked = true := by
  unfold Ppu.oamLocked Ppu.lcdOn
  rw [bit_eq, hon]
  rcases hmode with h | h <;> rw [h] <;> rfl

theorem Ppu.oamLocked_eq_false {p : Ppu} (h : p.lcdc.getLsbD 7 = false ∨ p.mode = .hblank ∨ p.mode = .vblank) :
    p.oamLocked = false := by
  unfold Ppu.oamLocked Ppu.lcdOn
  rw [bit_eq]
  rcases h with h | h | h
  · rw [h, Bool.false_and]
  · rw [h]
    exact Bool.and_false _
  · rw [h]
    exact Bool.and_false _

/-- Settles O34, by the region of the address. -/
theorem lockedAndUnmapped : Obligations.LockedAndUnmapped := by
  refine ⟨fun s a v => ⟨fun hr hon hmode => ?_, fun hr hon hmode => ?_, fun hr hfree => ?_, fun hr hfree => ?_⟩,
    fun s a v ha => ?_, fun s a v hlow hhigh => ?_⟩
  · have hl := Ppu.vramLocked_eq_true hon hmode
    rw [State.read8_of_vram hr, State.write8_of_vram hr]
    exact ⟨if_pos hl, if_pos hl⟩
  · have hl := Ppu.oamLocked_eq_true hon hmode
    rw [State.read8_of_oam hr, State.write8_of_oam hr]
    exact ⟨if_pos hl, if_pos hl⟩
  · rw [State.read8_of_vram hr, Ppu.vramLocked_eq_false hfree]
    rfl
  · rw [State.read8_of_oam hr, Ppu.oamLocked_eq_false hfree]
    rfl
  · refine State.access_of_unmapped ?_ s v
    exact ha.imp (fun h => regionOf_unusable (by omega)) (fun h => unmapped_of_gap h)
  · exact State.access_of_echo ((regionOf_echo_iff a).mpr ⟨hlow, by omega⟩) s v

end Sys2Proof.Machine
end

section
/-! PROOFS. The encoding (30_encoding.md): every row of the table decodes from its own bytes, and every byte string
decodes to the row whose bytes it holds. -/

set_option Elab.async false

namespace Sys2Proof.Machine

/-! From a row to its bytes and back (R100 to R110). -/

/-- The length that comes with a whole instruction is the one of its byte 0 (R100). -/
theorem lengthOf_of_decode {bs : List Byte} {i : Instr} {n : Nat} (h : decode bs = .ok (i, n)) (hi : WellFormed i) :
    lengthOf (bs.headD 0) = n := by
  unfold decode at h
  split at h
  · cases h
  · split_ifs at h
    · cases h
      rfl
    · cases h
      cases hi

/-- An instruction that ends before the zeros after some bytes is read from these bytes alone. -/
theorem decode_of_append_zeros {bs : List Byte} {i : Instr} {n : Nat} (h : decode (bs ++ [0, 0]) = .ok (i, n))
    (hi : WellFormed i) (hn : n ≤ bs.length) : decode bs = .ok (i, n) := by
  have hlen := lengthOf_of_decode h hi
  subst hlen
  rw [← h]
  match bs with
  | [] => exact absurd hn (by decide)
  | [_] | [_, _] => exact (if_pos hn).trans (decode_three ..).symm
  | _ :: _ :: _ :: _ => exact (decode_three ..).trans (decode_three ..).symm

theorem decode_three_eq {b0 b1 b2 : Byte} {i : Instr} {n : Nat} (hi : decodeOp b0 b1 b2 = i) (hn : lengthOf b0 = n)
    (rest : List Byte) : decode (b0 :: b1 :: b2 :: rest) = .ok (i, n) := by
  rw [decode_three, hi, hn]

/-- A row with an operand `nn` reads back the word that was encoded low byte first (R103). -/
theorem decodeOp_lo_hi {op : Byte} {f : Word → Instr} (h : ∀ b1 b2, decodeOp op b1 b2 = f (hiLo b2 b1))
    (nn : Word) : decodeOp op (lo nn) (hi nn) = f nn := by
  rw [h, hiLo_hi_lo]

/-- The decoder's maps send the bytes of each row to that row; only `nn` is put together from two bytes. -/
theorem decode_encode_append_two (i : Instr) (h : WellFormed i) (c1 c2 : Byte) (rest : List Byte) :
    decode (encode i ++ c1 :: c2 :: rest) = .ok (i, (encode i).length) := by
  cases i with
  | prefixCB => exact Bool.noConfusion h
  | ldBCImm16 nn | ldDEImm16 nn | ldHLImm16 nn | ldSPImm16 nn | ldMemImm16SP nn | ldMemImm16A nn | ldAMemImm16 nn
  | jpImm16 nn | jpNZImm16 nn | jpZImm16 nn | jpNCImm16 nn | jpCImm16 nn
  | callImm16 nn | callNZImm16 nn | callZImm16 nn | callNCImm16 nn | callCImm16 nn =>
    exact decode_three_eq (decodeOp_lo_hi (fun _ _ => rfl) nn) rfl _
  | _ => exact decode_three_eq rfl rfl _

/-- Settles O1: the bytes of a row hold the whole instruction, so two more bytes may be taken to follow. -/
theorem decodeOfEncode : Obligations.DecodeOfEncode := by
  intro i rest h
  have hdec : decode (encode i ++ (rest ++ [0, 0])) = .ok (i, (encode i).length) := by
    match rest with
    | [] => exact decode_encode_append_two i h 0 0 []
    | [c1] => exact decode_encode_append_two i h c1 0 [0]
    | c1 :: c2 :: rest => exact decode_encode_append_two i h c1 c2 (rest ++ [0, 0])
  rw [← List.append_assoc] at hdec
  refine decode_of_append_zeros hdec h ?_
  rw [List.length_append]
  exact Nat.le_add_right _ _

/-! From bytes to the row and back (R100 to R112). -/

/-- The byte with the fields `x`, `y` and `z` (R101). -/
def opByte (x : Nat) (y z : Fin 8) : Byte := BitVec.ofNat 8 (64 * x + 8 * y.val + z.val)

/-- A byte is put together from its fields. -/
theorem opByte_fields (op : Byte) : opByte (fieldX op) (fieldY op) (fieldZ op) = op := by
  apply BitVec.eq_of_toNat_eq
  simp only [opByte, fieldX, fieldY, fieldZ, Fin.ofNat, BitVec.toNat_ofNat]
  omega

/-- The field `x` has two bits. -/
theorem fieldX_cases (op : Byte) : fieldX op = 0 ∨ fieldX op = 1 ∨ fieldX op = 2 ∨ fieldX op = 3 := by
  unfold fieldX
  omega

/-- The bytes of each row of the `CB` map (R110). -/
theorem encode_decodeCB (op2 : Byte) : encode (decodeCB op2) = [0xCB, op2] := by
  have hrot : ∀ y z, encode (.rot (rotOpOf y) (opd8Of z)) = [0xCB, opByte 0 y z] := by decide
  have hbit : ∀ y z, encode (.bit y (opd8Of z)) = [0xCB, opByte 1 y z] := by decide
  have hres : ∀ y z, encode (.res y (opd8Of z)) = [0xCB, opByte 2 y z] := by decide
  have hset : ∀ y z, encode (.set y (opd8Of z)) = [0xCB, opByte 3 y z] := by decide
  have hop := opByte_fields op2
  unfold decodeCB
  rcases fieldX_cases op2 with h | h | h | h <;> rw [h] at hop ⊢ <;> simp only [hrot, hbit, hres, hset, hop]

/-- The bytes of each row of the quadrant `x = 0` (R105). -/
theorem encode_decodeX0 (y z : Fin 8) (nn : Word) :
    encode (decodeX0 y z (lo nn) nn) = [opByte 0 y z, lo nn, hi nn].take (lengthOf (opByte 0 y z)) := by
  fin_cases z <;> fin_cases y <;> rfl

/-- The bytes of each row of the quadrant `x = 1` (R106). -/
theorem encode_ldOpdOpd : ∀ y z, encode (ldOpdOpd (opd8Of y) (opd8Of z)) = [opByte 1 y z] := by decide

/-- The bytes of each row of the quadrant `x = 2` (R107). -/
theorem encode_aluOpd : ∀ y z, encode (.aluOpd (aluOpOf y) (opd8Of z)) = [opByte 2 y z] := by decide

/-- An opcode of the quadrant `x = 1` is a whole instruction (R102). -/
theorem lengthOf_opByte_one : ∀ y z, lengthOf (opByte 1 y z) = 1 := by decide

/-- An opcode of the quadrant `x = 2` is a whole instruction (R102). -/
theorem lengthOf_opByte_two : ∀ y z, lengthOf (opByte 2 y z) = 1 := by decide

/-- The bytes of each row of the quadrant `x = 3` (R108), the `CB` map included. -/
theorem encode_decodeX3 (y z : Fin 8) (nn : Word) :
    encode (decodeX3 y z (lo nn) nn) = [opByte 3 y z, lo nn, hi nn].take (lengthOf (opByte 3 y z)) := by
  match z with
  | 3 =>
    match y with
    | 1 => exact encode_decodeCB (lo nn)
    | 0 | 2 | 3 | 4 | 5 | 6 | 7 => rfl
  | 0 | 1 | 2 | 4 | 5 | 6 | 7 => fin_cases y <;> rfl

/-- The row that the decoder reads has the bytes that it was read from. -/
theorem encode_decodeOp (b0 b1 b2 : Byte) : encode (decodeOp b0 b1 b2) = [b0, b1, b2].take (lengthOf b0) := by
  have hop := opByte_fields b0
  have hx := fieldX_cases b0
  unfold decodeOp
  generalize fieldX b0 = x, fieldY b0 = y, fieldZ b0 = z at hop hx ⊢
  have hX0 := encode_decodeX0 y z (hiLo b2 b1)
  have hX3 := encode_decodeX3 y z (hiLo b2 b1)
  rw [lo_hiLo, hi_hiLo] at hX0 hX3
  subst hop
  rcases hx with rfl | rfl | rfl | rfl
  · exact hX0
  · rw [lengthOf_opByte_one]
    exact encode_ldOpdOpd y z
  · rw [lengthOf_opByte_two]
    exact encode_aluOpd y z
  · exact hX3

theorem wellFormed_of_ne_prefixCB {i : Instr} (h : i ≠ .prefixCB) : WellFormed i := by
  cases i with
  | prefixCB => exact absurd rfl h
  | _ => rfl

/-- The decoder never reads the prefix row: the byte `CB` is read with the one after it (R110, R276). -/
theorem decodeOp_wellFormed (b0 b1 b2 : Byte) : WellFormed (decodeOp b0 b1 b2) := by
  refine wellFormed_of_ne_prefixCB fun h => ?_
  have hbytes := encode_decodeOp b0 b1 b2
  rw [h] at hbytes
  have hone : lengthOf b0 = 1 := by
    have hlen : 1 = min (lengthOf b0) 3 := (congrArg List.length hbytes).trans List.length_take
    omega
  rw [hone] at hbytes
  have hb0 : 0xCB = b0 := List.head_eq_of_cons_eq hbytes
  exact absurd (hb0 ▸ hone) (by decide)

/-- Settles O2: three bytes hold an instruction, and the row that the decoder's maps give has these bytes. -/
theorem everyByteStringDecodes : Obligations.EveryByteStringDecodes := by
  intro b0 b1 b2 rest
  obtain ⟨hlow, hhigh⟩ := lengthOf_bounds b0
  refine ⟨decodeOp b0 b1 b2, decode_three b0 b1 b2 rest, decodeOp_wellFormed b0 b1 b2, hlow, hhigh, ?_⟩
  rw [encode_decodeOp]
  exact (List.take_append_of_le_length (l₂ := rest) hhigh).symm

/-- Settles O3: each word is the encoding of its instruction. -/
theorem decodeWords : Obligations.DecodeWords :=
  have word (i : Instr) (h : WellFormed i) : decode (encode i) = .ok (i, (encode i).length) := by
    simpa using decodeOfEncode i [] h
  ⟨word .ldBC rfl, word (.ldMemHLImm8 0x42) rfl, word (.ldHLImm16 0x1234) rfl, word .adcAE rfl,
    word (.addSPRel 0x02) rfl, word .rla rfl, word .swapA rfl, word .bit7MemHL rfl, word (.callNCImm16 0x4000) rfl,
    word .rst28 rfl, word .halt rfl, word .popAF rfl⟩

end Sys2Proof.Machine
end

section
/-! PROOFS. The 8-bit loads and stores (40_load8.md R130 to R149): the register file, the address of `LDH`, and what
each operation of the family leaves. -/

set_option Elab.async false

namespace Sys2Proof.Machine

/-- A register reads back what was written to it, and a write of another register leaves it (10_state.md R20). -/
theorem Cpu.reg_setReg (c : Cpu) (dst r : Reg8) (v : Byte) :
    (c.setReg dst v).reg r = if r = dst then v else c.reg r := by
  cases dst <;> cases r <;> rfl

/-- The address of `LDH` is the sum that R142 writes. -/
theorem highPage_eq_add (n : Byte) : highPage n = 0xFF00 + n.setWidth 16 := by
  have h : (highPage n).toNat = 0xFF * 256 + n.toNat := hiLo_toNat 0xFF n
  bv_omega

/-- The rows of R135, R136, R139, R142 and R144 differ in the address and the cost only. -/
theorem loadAccFrom_eq (a : Word) (m : Nat) (s : State) :
    loadAccFrom a m s = .next { s with cpu := { s.cpu with a := s.read8 a }, cycles := m } := rfl

/-- `A` is loaded from the `HL` before its step (R148, R149). -/
theorem loadAccStep_eq (d : Word) (s : State) :
    loadAccStep d s = .next { s with
      cpu := Cpu.setHL { s.cpu with a := s.read8 s.cpu.hl } (s.cpu.hl + d), cycles := 2 } := rfl

/-- The rows of R133, R134, R137, R138, R140, R143 and R145 differ in the address, the byte and the cost only. -/
theorem storeAt_eq (a : Word) (v : Byte) (m : Nat) (s : State) :
    storeAt a v m s = .next { s.write8 a v with cycles := m } := rfl

/-- The `HL` that is stepped is the one before the bus write, which leaves the CPU registers (R146, R147). -/
theorem storeAccStep_eq (d : Word) (s : State) :
    storeAccStep d s = .next { s.write8 s.cpu.hl s.cpu.a with cpu := s.cpu.setHL (s.cpu.hl + d), cycles := 2 } := by
  unfold storeAccStep
  rw [State.write8_cpu]
  rfl

/-- Settles O13: each row is the copy or the load of its family, and a register write is read back. -/
theorem loadRegisterResult : Obligations.LoadRegisterResult := by
  intro dst src r n s
  exact ⟨exec_ldRegReg dst src s, exec_ldRegImm dst n s, s.cpu.reg_setReg dst r n⟩

/-- Settles O14: each row is one of the loads at its address; the address of `LDH` is a sum, and the step of `HL` by -1
is a subtraction. -/
theorem loadFromMemoryResult : Obligations.LoadFromMemoryResult := by
  intro r nn n s
  simp only [← highPage_eq_add, sub_eq_add_neg]
  exact ⟨exec_ldRegMem r s, loadAccFrom_eq s.cpu.bc 2 s, loadAccFrom_eq s.cpu.de 2 s, loadAccFrom_eq nn 4 s,
    loadAccFrom_eq (highPage n) 3 s, loadAccFrom_eq (highPage s.cpu.c) 2 s, loadAccStep_eq 1 s, loadAccStep_eq (-1) s⟩

/-- Settles O15: each row is one bus write at its address, and only the last two write a register after it. -/
theorem storeResult : Obligations.StoreResult := by
  intro r nn n s
  simp only [← highPage_eq_add, sub_eq_add_neg]
  exact ⟨exec_ldMemReg r s, storeAt_eq s.cpu.hl n 3 s, storeAt_eq s.cpu.bc s.cpu.a 2 s,
    storeAt_eq s.cpu.de s.cpu.a 2 s, storeAt_eq nn s.cpu.a 4 s, storeAt_eq (highPage n) s.cpu.a 3 s,
    storeAt_eq (highPage s.cpu.c) s.cpu.a 2 s, storeAccStep_eq 1 s, storeAccStep_eq (-1) s⟩

end Sys2Proof.Machine
end

section
/-! PROOFS. The 16-bit loads and the stack (41_load16_stack.md R160 to R168): the register pairs, the flags of
`LD HL,SP+e`, and what a push leaves for the next pop. -/

set_option Elab.async false

namespace Sys2Proof.Machine

/-- A pair reads back the word that was written to its two halves (10_state.md R21). -/
theorem Cpu.pair_setPair (c : Cpu) (p : Reg16) (v : Word) : (c.setPair p v).pair p = v := by
  cases p with
  | bc | de | hl => exact hiLo_hi_lo v
  | sp => rfl

/-- As `Cpu.pair_setPair`, for the pairs of `POP` but `AF`, whose low nibble is dropped (R167, R168). -/
theorem Cpu.stackPair_setStackPair (c : Cpu) {p : StackReg} (hp : p ≠ .af) (v : Word) :
    (c.setStackPair p v).stackPair p = v := by
  cases p with
  | bc | de | hl => exact hiLo_hi_lo v
  | af => exact absurd rfl hp

/-- Bit `i` of the low byte is bit `i` of the word. -/
theorem getLsbD_lo (v : Word) {i : Nat} (h : i < 8) : (lo v).getLsbD i = v.getLsbD i := by
  simp [lo, h]

/-- `POP AF` takes the flags from bits 7 to 4 of the low byte (R167, 10_state.md R22). -/
theorem Cpu.setStackPair_af (c : Cpu) (v : Word) :
    c.setStackPair .af v = { c with
      a := hi v, zf := v.getLsbD 7, nf := v.getLsbD 6, hf := v.getLsbD 5, cf := v.getLsbD 4 } := by
  have hbit {i : Nat} (h : i < 8) : bit (lo v) i = v.getLsbD i := getLsbD_lo v h
  simp only [Cpu.setStackPair, Cpu.setF, hbit, Nat.reduceLT]

/-- The carries of `LD HL,SP+e` are those of the low nibble and the low byte of `SP` (R164). -/
theorem spFlags_eq (sp : Word) (e : Byte) :
    spFlags sp e = ⟨false, false, decide (sp.toNat % 16 + e.toNat % 16 > 0xF),
      decide (sp.toNat % 256 + e.toNat > 0xFF)⟩ := by
  have hnibble : sp.toNat % 256 % 16 = sp.toNat % 16 := Nat.mod_mod_of_dvd _ (by decide)
  simp only [spFlags, nibble, lo_toNat, hnibble, gt_iff_lt]

theorem execLdHLSPRel_eq (e : Byte) (s : State) :
    execLdHLSPRel e s = .next { s with
      cpu := Cpu.setHL { s.cpu with
        zf := false, nf := false
        hf := decide (s.cpu.sp.toNat % 16 + e.toNat % 16 > 0xF)
        cf := decide (s.cpu.sp.toNat % 256 + e.toNat > 0xFF) } (s.cpu.sp + e.signExtend 16)
      cycles := 3 } := by
  unfold execLdHLSPRel
  rw [spFlags_eq]
  rfl

theorem pushPair_eq (p : StackReg) (s : State) :
    pushPair p s = .next { (({ s with cpu := { s.cpu with sp := s.cpu.sp - 1 } } : State).write8 (s.cpu.sp - 1)
      (hi (s.cpu.stackPair p))).write8 (s.cpu.sp - 2) (lo (s.cpu.stackPair p)) with
        cpu := { s.cpu with sp := s.cpu.sp - 2 }, cycles := 4 } := by
  unfold pushPair
  rw [State.push16_eq]
  rfl

/-- Neighbouring addresses name different bytes: the echo is 8 KiB away from what it shows (20_memory.md R67). -/
theorem cellOf_sub_one_ne (a : Word) : cellOf (a - 1) ≠ cellOf a := by
  unfold cellOf
  simp only [regionOf_echo_iff]
  split_ifs <;> bv_omega

/-- The pop after a push reads the two bytes pushed, of which neither write reaches the other's byte. -/
theorem State.top16_push16 (s : State) (v : Word) (hhigh : plainRam (s.cpu.sp - 1) = true)
    (hlow : plainRam (s.cpu.sp - 2) = true) : (s.push16 v).top16 = v := by
  have hup : s.cpu.sp - 2 + 1 = s.cpu.sp - 1 := by bv_omega
  have hdown : s.cpu.sp - 1 - 1 = s.cpu.sp - 2 := by bv_omega
  have hne : cellOf (s.cpu.sp - 1) ≠ cellOf (s.cpu.sp - 2) := hdown ▸ (cellOf_sub_one_ne (s.cpu.sp - 1)).symm
  have hacc (t : State) : t.Accessible (s.cpu.sp - 1) ∧ t.Accessible (s.cpu.sp - 2) := ⟨.inl hhigh, .inl hlow⟩
  unfold State.top16
  rw [State.push16_cpu, hup, State.push16_eq, State.read8_setCpu, State.read8_setCpu,
    (hacc _).2.read8_write8_same, (hacc _).2.read8_write8_other _ hne, (hacc _).1.read8_write8_same, hiLo_hi_lo]

/-- Settles O16: each row is the load of its family, and a pair write is read back. -/
theorem load16Result : Obligations.Load16Result := by
  intro p nn e s
  exact ⟨exec_ldPairImm p nn s, s.cpu.pair_setPair p nn, rfl, execLdHLSPRel_eq e s, rfl⟩

/-- Settles O17: each row is the push or the pop of its family, and the two bytes of a push are different ones. -/
theorem stackResult : Obligations.StackResult := by
  refine ⟨fun p s => ?_, fun p s => exec_pop p s, fun c v => ?_, State.top16_push16⟩
  · rw [exec_push, pushPair_eq]
  · have hpair (p : StackReg) (hp : p ≠ .af) := c.stackPair_setStackPair hp v
    exact ⟨c.setStackPair_af v, hpair .bc nofun, hpair .de nofun, hpair .hl nofun⟩

end Sys2Proof.Machine
end

section
/-! PROOFS. The 8-bit arithmetic and logic (42_alu8.md R175 to R192): what the unit computes, in the numbers that the
rules write; the one equation of each family of rows; and decimal arithmetic by `DAA`. -/

set_option Elab.async false

namespace Sys2Proof.Machine

/-! The results of the unit as numbers. -/

/-- The zero flag of a result that is a number modulo 2^8 (R176 to R188). -/
theorem ofNat_beq_zero (n : Nat) : (BitVec.ofNat 8 n == 0) = decide (n % 256 = 0) := by
  rw [beq_eq_decide, decide_eq_decide, ← BitVec.toNat_inj, BitVec.toNat_ofNat]
  rfl

theorem addWithCarry_eq (a v : Byte) (c : Bool) :
    addWithCarry a v c = ⟨BitVec.ofNat 8 (a.toNat + v.toNat + c.toNat),
      decide ((a.toNat + v.toNat + c.toNat) % 256 = 0), false,
      decide (a.toNat % 16 + v.toNat % 16 + c.toNat > 0xF), decide (a.toNat + v.toNat + c.toNat > 0xFF)⟩ := by
  unfold addWithCarry
  simp only [ofNat_beq_zero]
  rfl

/-- Adding 512 before the subtraction keeps it on natural numbers, and is 0 modulo 2^8. -/
theorem sub_sub_eq_ofNat (a v : Byte) (c : Bool) :
    a - v - BitVec.ofNat 8 c.toNat = BitVec.ofNat 8 (a.toNat + 512 - v.toNat - c.toNat) := by
  have hc := c.toNat_le
  have hv := v.isLt
  apply BitVec.eq_of_toNat_eq
  simp only [BitVec.toNat_sub, BitVec.toNat_ofNat]
  omega

theorem subWithBorrow_eq (a v : Byte) (c : Bool) :
    subWithBorrow a v c = ⟨BitVec.ofNat 8 (a.toNat + 512 - v.toNat - c.toNat),
      decide ((a.toNat + 512 - v.toNat - c.toNat) % 256 = 0), true,
      decide (a.toNat % 16 < v.toNat % 16 + c.toNat), decide (a.toNat < v.toNat + c.toNat)⟩ := by
  unfold subWithBorrow
  simp only [sub_sub_eq_ofNat, ofNat_beq_zero]
  rfl

theorem incOut_eq (v : Byte) (f : Flags) :
    incOut v f = ⟨BitVec.ofNat 8 (v.toNat + 1), decide (v = 0xFF), false, decide (v.toNat % 16 = 0xF), f.c⟩ := by
  have hvalue : v + 1 = BitVec.ofNat 8 (v.toNat + 1) := by bv_omega
  have hzero : (v + 1 == 0) = decide (v = 0xFF) := by
    rw [beq_eq_decide, decide_eq_decide]
    bv_omega
  unfold incOut nibble
  rw [hzero, hvalue, beq_eq_decide]

theorem decOut_eq (v : Byte) (f : Flags) :
    decOut v f = ⟨BitVec.ofNat 8 (v.toNat + 255), decide (v = 0x01), true, decide (v.toNat % 16 = 0), f.c⟩ := by
  have hvalue : v - 1 = BitVec.ofNat 8 (v.toNat + 255) := by bv_omega
  have hzero : (v - 1 == 0) = decide (v = 0x01) := by
    rw [beq_eq_decide, decide_eq_decide]
    bv_omega
  unfold decOut nibble
  rw [hzero, hvalue, beq_eq_decide]

/-- The complement of `CPL` as a number (R189). -/
theorem not_eq_ofNat (a : Byte) : ~~~a = BitVec.ofNat 8 (255 - a.toNat) := by
  bv_omega

/-- A conditional addition adds a conditional number. -/
theorem ite_add_eq_ofNat (p : Prop) [Decidable p] (n k : Nat) :
    (if p then BitVec.ofNat 8 n + BitVec.ofNat 8 k else BitVec.ofNat 8 n) =
      BitVec.ofNat 8 (n + if p then k else 0) := by
  split_ifs
  · exact (BitVec.ofNat_add n k).symm
  · rfl

/-! `DAA` (R188): the two corrections are one number, added or subtracted. -/

/-- What `DAA` adds to `A` after an addition. -/
def daaUp (a : Byte) (f : Flags) : Nat :=
  (if f.c = true ∨ a.toNat > 0x99 then 0x60 else 0) + (if f.h = true ∨ a.toNat % 16 > 9 then 0x06 else 0)

/-- What `DAA` subtracts from `A` after a subtraction. -/
def daaDown (f : Flags) : Nat := (if f.c = true then 0x60 else 0) + (if f.h = true then 0x06 else 0)

theorem daaHigh_eq (a : Byte) (c : Bool) :
    daaHigh a c = BitVec.ofNat 8 (a.toNat + if c = true ∨ a.toNat > 0x99 then 0x60 else 0) := by
  unfold daaHigh
  simp only [Bool.or_eq_true, decide_eq_true_eq, gt_iff_lt]
  split_ifs <;> bv_omega

/-- The first correction leaves the low nibble, on which the second one depends. -/
theorem nibble_daaHigh (a : Byte) (c : Bool) : nibble (daaHigh a c) = a.toNat % 16 := by
  rw [daaHigh_eq, nibble, BitVec.toNat_ofNat]
  split_ifs <;> omega

theorem daaOut_of_add {f : Flags} (hn : f.n = false) (a : Byte) :
    daaOut a f = ⟨BitVec.ofNat 8 (a.toNat + daaUp a f), decide ((a.toNat + daaUp a f) % 256 = 0), false, false,
      f.c || decide (a.toNat > 0x99)⟩ := by
  have hvalue : (if f.h || decide (0x9 < nibble (daaHigh a f.c)) then daaHigh a f.c + 0x06 else daaHigh a f.c) =
      BitVec.ofNat 8 (a.toNat + daaUp a f) := by
    rw [nibble_daaHigh, daaHigh_eq, daaUp]
    simp only [Bool.or_eq_true, decide_eq_true_eq, gt_iff_lt, ← add_assoc]
    exact ite_add_eq_ofNat _ _ _
  unfold daaOut
  simp only [hn, Bool.false_eq_true, if_false, hvalue, ofNat_beq_zero]

theorem daaOut_of_sub {f : Flags} (hn : f.n = true) (a : Byte) :
    daaOut a f = ⟨BitVec.ofNat 8 (a.toNat + 256 - daaDown f), decide ((a.toNat + 256 - daaDown f) % 256 = 0), true,
      false, f.c⟩ := by
  have hvalue : (if f.h then (if f.c then a - 0x60 else a) - 0x06 else if f.c then a - 0x60 else a) =
      BitVec.ofNat 8 (a.toNat + 256 - daaDown f) := by
    unfold daaDown
    split_ifs <;> bv_omega
  unfold daaOut
  simp only [hn, if_true, hvalue, ofNat_beq_zero]

/-! The rows of the family: the operand is read, the unit computes, the result and the flags are written. -/

/-- The state after an accumulator operation with the result `o`. -/
def AluOut.toAcc (o : AluOut) (s : State) (m : Nat) : State :=
  accResult s o.value o.flags.z o.flags.n o.flags.h o.flags.c m

theorem exec_aluOpd (op : AluOp) (o : Opd8) (s : State) :
    exec (.aluOpd op o) s = .next ((aluOut op s.cpu.a (s.readOpd o) s.cpu.cf).toAcc s (operandCost o 1 2)) := by
  cases o with
  | reg r => exact exec_aluReg op r s
  | memHL => exact exec_aluMem op s

theorem exec_aluImm_eq (op : AluOp) (n : Byte) (s : State) :
    exec (.aluImm op n) s = .next ((aluOut op s.cpu.a n s.cpu.cf).toAcc s 2) :=
  exec_aluImm op n s

theorem exec_daa (s : State) : exec .daa s = .next ((daaOut s.cpu.a s.cpu.flags).toAcc s 1) := rfl

/-- `DAA` after an immediate operation corrects the result by the flags that the operation gave. -/
theorem exec_aluImm_then_daa (op : AluOp) (n : Byte) (s : State) :
    let o := aluOut op s.cpu.a n s.cpu.cf
    ∃ t u, exec (.aluImm op n) s = .next t ∧ exec .daa t = .next u ∧ u.cpu.a = (daaOut o.value o.flags).value ∧
      u.cpu.cf = (daaOut o.value o.flags).flags.c :=
  ⟨_, _, exec_aluImm_eq op n s, exec_daa _, rfl, rfl⟩

/-- The state after `INC` or `DEC` of the operand `x` with the result `o`. -/
def AluOut.toOpd (o : AluOut) (x : Opd8) (s : State) : State :=
  flagsResult (s.writeOpd x o.value) o.flags.z o.flags.n o.flags.h o.flags.c (operandCost x 1 3)

theorem exec_inc8 (x : Opd8) (s : State) :
    exec (.inc8 x) s = .next ((incOut (s.readOpd x) s.cpu.flags).toOpd x s) := by
  cases x with
  | reg r => exact exec_incReg r s
  | memHL => exact exec_incMem s

theorem exec_dec8 (x : Opd8) (s : State) :
    exec (.dec8 x) s = .next ((decOut (s.readOpd x) s.cpu.flags).toOpd x s) := by
  cases x with
  | reg r => exact exec_decReg r s
  | memHL => exact exec_decMem s

/-! Packed decimal. After an addition of packed decimals, `t` and `u` are the sums of the tens and of the units. -/

theorem bcd_toNat {x : Nat} (hx : x < 100) : (bcd x).toNat = x / 10 * 16 + x % 10 := by
  rw [bcd, BitVec.toNat_ofNat]
  omega

/-- A byte is the packed decimal of `x` when its number is, modulo 2^8. -/
theorem ofNat_eq_bcd {n x : Nat} (h : n % 256 = (x / 10 * 16 + x % 10) % 256) : BitVec.ofNat 8 n = bcd x :=
  BitVec.eq_of_toNat_eq (by rw [bcd, BitVec.toNat_ofNat, BitVec.toNat_ofNat, h])

theorem addWithCarry_bcd {x y : Nat} (hx : x < 100) (hy : y < 100) (c : Bool) {t u : Nat} (ht : t = x / 10 + y / 10)
    (hu : u = x % 10 + y % 10 + c.toNat) :
    ∃ z, addWithCarry (bcd x) (bcd y) c =
      ⟨BitVec.ofNat 8 (16 * t + u), z, false, decide (u > 0xF), decide (16 * t + u > 0xFF)⟩ := by
  have hsum : (bcd x).toNat + (bcd y).toNat + c.toNat = 16 * t + u := by
    rw [bcd_toNat hx, bcd_toNat hy]
    omega
  have hnibbles : (bcd x).toNat % 16 + (bcd y).toNat % 16 + c.toNat = u := by
    rw [bcd_toNat hx, bcd_toNat hy]
    omega
  rw [addWithCarry_eq, hsum, hnibbles]
  exact ⟨_, rfl⟩

/-- A digit sum above 9 shows after the binary addition, as a carry or as a nibble that is no digit. -/
theorem digitSums_carries {t u : Nat} (ht : t ≤ 18) (hu : u ≤ 19) :
    (16 * t + u > 0xFF ∨ (16 * t + u) % 256 > 0x99 ↔ 100 ≤ 10 * t + u) ∧
      (u > 0xF ∨ (16 * t + u) % 256 % 16 > 9 ↔ 10 ≤ u) := by
  omega

theorem daaUp_digitSums {t u : Nat} (ht : t ≤ 18) (hu : u ≤ 19) (z : Bool) :
    daaUp (BitVec.ofNat 8 (16 * t + u)) ⟨z, false, decide (u > 0xF), decide (16 * t + u > 0xFF)⟩ =
      (if 100 ≤ 10 * t + u then 0x60 else 0) + (if 10 ≤ u then 0x06 else 0) := by
  obtain ⟨htens, hunits⟩ := digitSums_carries ht hu
  simp only [daaUp, BitVec.toNat_ofNat, decide_eq_true_eq, htens, hunits]

/-- The corrections turn the binary sum of the digits into the decimal one. -/
theorem digitSums_corrected {t u : Nat} (ht : t ≤ 18) (hu : u ≤ 19) :
    16 * t + u + ((if 100 ≤ 10 * t + u then 0x60 else 0) + (if 10 ≤ u then 0x06 else 0)) =
      (10 * t + u) % 100 / 10 * 16 + (10 * t + u) % 100 % 10 + if 100 ≤ 10 * t + u then 256 else 0 := by
  split_ifs <;> omega

theorem daaOut_digitSums {t u : Nat} (ht : t ≤ 18) (hu : u ≤ 19) (z : Bool) :
    let o := daaOut (BitVec.ofNat 8 (16 * t + u)) ⟨z, false, decide (u > 0xF), decide (16 * t + u > 0xFF)⟩
    o.value = bcd ((10 * t + u) % 100) ∧ o.flags.c = decide (100 ≤ 10 * t + u) := by
  intro o
  have hcorrected := digitSums_corrected ht hu
  obtain ⟨htens, -⟩ := digitSums_carries ht hu
  simp only [o, daaOut_of_add, daaUp_digitSums ht hu]
  constructor
  · refine ofNat_eq_bcd ?_
    rw [BitVec.toNat_ofNat, Nat.mod_add_mod, hcorrected]
    split_ifs
    · exact Nat.add_mod_right _ _
    · rfl
  · rw [← Bool.decide_or, BitVec.toNat_ofNat, decide_eq_decide]
    exact htens

/-- `ADC` then `DAA` adds decimally. -/
theorem daaOut_addWithCarry_bcd {x y : Nat} (hx : x < 100) (hy : y < 100) (c : Bool) :
    let o := addWithCarry (bcd x) (bcd y) c
    (daaOut o.value o.flags).value = bcd ((x + y + c.toNat) % 100) ∧
      (daaOut o.value o.flags).flags.c = decide (100 ≤ x + y + c.toNat) := by
  have hc := c.toNat_le
  have hsum : x + y + c.toNat = 10 * (x / 10 + y / 10) + (x % 10 + y % 10 + c.toNat) := by omega
  obtain ⟨z, ho⟩ := addWithCarry_bcd hx hy c rfl rfl
  simp only [ho, hsum]
  exact daaOut_digitSums (by omega) (by omega) z

/-- A borrow of the packed decimals is one of the numbers, and a borrow of the nibbles is one of the units. -/
theorem subWithBorrow_bcd {x y : Nat} (hx : x < 100) (hy : y < 100) (c : Bool) :
    ∃ z, subWithBorrow (bcd x) (bcd y) c =
      ⟨BitVec.ofNat 8 (x / 10 * 16 + x % 10 + 512 - (y / 10 * 16 + y % 10) - c.toNat), z, true,
        decide (x % 10 < y % 10 + c.toNat), decide (x < y + c.toNat)⟩ := by
  have hc := c.toNat_le
  have hunits : (x / 10 * 16 + x % 10) % 16 < (y / 10 * 16 + y % 10) % 16 + c.toNat ↔ x % 10 < y % 10 + c.toNat := by
    omega
  have hborrow : x / 10 * 16 + x % 10 < y / 10 * 16 + y % 10 + c.toNat ↔ x < y + c.toNat := by omega
  rw [subWithBorrow_eq, bcd_toNat hx, bcd_toNat hy, decide_eq_decide.mpr hunits, decide_eq_decide.mpr hborrow]
  exact ⟨_, rfl⟩

/-- The corrections turn the binary difference of the digits into the decimal one. -/
theorem digitDiffs_corrected {x y c : Nat} (hx : x < 100) (hy : y < 100) (hc : c ≤ 1) :
    ((x / 10 * 16 + x % 10 + 512 - (y / 10 * 16 + y % 10) - c) % 256 + 256 -
      ((if x < y + c then 0x60 else 0) + (if x % 10 < y % 10 + c then 0x06 else 0))) % 256 =
      ((x + 100 - y - c) % 100 / 10 * 16 + (x + 100 - y - c) % 100 % 10) % 256 := by
  split_ifs <;> omega

/-- `SBC` then `DAA` subtracts decimally. -/
theorem daaOut_subWithBorrow_bcd {x y : Nat} (hx : x < 100) (hy : y < 100) (c : Bool) :
    let o := subWithBorrow (bcd x) (bcd y) c
    (daaOut o.value o.flags).value = bcd ((x + 100 - y - c.toNat) % 100) ∧
      (daaOut o.value o.flags).flags.c = decide (x < y + c.toNat) := by
  obtain ⟨z, ho⟩ := subWithBorrow_bcd hx hy c
  have hcorrected := digitDiffs_corrected hx hy c.toNat_le
  simp only [ho, daaOut_of_sub, daaDown, BitVec.toNat_ofNat, decide_eq_true_eq, and_true]
  exact ofNat_eq_bcd hcorrected

/-! The statements of the family. -/

/-- Settles O18: each row is `addWithCarry` of its operand, without a carry for `ADD`. -/
theorem addResult : Obligations.AddResult := by
  intro o n s
  simp only [exec_aluOpd, exec_aluImm_eq, aluOut, addWithCarry_eq]
  exact ⟨rfl, rfl, rfl, rfl⟩

/-- Settles O19: each row is `subWithBorrow` of its operand, without a borrow for `SUB` and `CP`. -/
theorem subtractResult : Obligations.SubtractResult := by
  intro o n s
  simp only [exec_aluOpd, exec_aluImm_eq, aluOut, subWithBorrow_eq]
  exact ⟨rfl, rfl, rfl, rfl, rfl, rfl⟩

/-- Settles O20: each row is the operation of the unit on its operand. -/
theorem logicResult : Obligations.LogicResult := by
  intro o n s
  simp only [exec_aluOpd, exec_aluImm_eq, aluOut, andOut, xorOut, orOut, beq_eq_decide]
  exact ⟨rfl, rfl, rfl, rfl, rfl, rfl⟩

/-- Settles O21: both forms write the result back as the operand and take the flags from the value read. -/
theorem incDecResult : Obligations.IncDecResult := by
  intro o s
  simp only [exec_inc8, exec_dec8, incOut_eq, decOut_eq]
  exact ⟨rfl, rfl⟩

/-- Settles O22: `DAA` by the kind of the operation before it, the other three as they stand. -/
theorem daaResult : Obligations.DaaResult := by
  intro s
  refine ⟨fun hn => ?_, fun hn => ?_, ?_, rfl, rfl⟩
  · rw [exec_daa, daaOut_of_add hn]
    rfl
  · rw [exec_daa, daaOut_of_sub hn]
    rfl
  · rw [← not_eq_ofNat]
    rfl

/-- Settles O23: `DAA` corrects the unit's sum or difference of packed decimals digit by digit. -/
theorem bcdArithmetic : Obligations.BcdArithmetic := by
  intro x y s hx hy ha
  have hadc := exec_aluImm_then_daa .adc (bcd y) s
  have hsbc := exec_aluImm_then_daa .sbc (bcd y) s
  obtain ⟨hsum, hcarry⟩ := daaOut_addWithCarry_bcd hx hy s.cpu.cf
  obtain ⟨hdiff, hborrow⟩ := daaOut_subWithBorrow_bcd hx hy s.cpu.cf
  simp only [aluOut, ha, hsum, hcarry] at hadc
  simp only [aluOut, ha, hdiff, hborrow] at hsbc
  exact ⟨hadc, hsbc⟩

end Sys2Proof.Machine
end

section
/-! PROOFS. The 16-bit arithmetic (43_alu16.md R210 to R215): the sum, the step of a pair and the sum with `SP`, in the
numbers that the rules write. -/

set_option Elab.async false

namespace Sys2Proof.Machine

/-- The half carry is that out of bit 11, and the flags are those before the write of `HL`, which leaves them (R211). -/
theorem addHL_eq (p : Reg16) (s : State) :
    addHL p s = .next { s with
      cpu := Cpu.setHL { s.cpu with
        nf := false
        hf := decide (s.cpu.hl.toNat % 4096 + (s.cpu.pair p).toNat % 4096 > 0xFFF)
        cf := decide (s.cpu.hl.toNat + (s.cpu.pair p).toNat > 0xFFFF) }
        (BitVec.ofNat 16 (s.cpu.hl.toNat + (s.cpu.pair p).toNat))
      cycles := 2 } := by
  rw [← BitVec.add_def]
  rfl

/-- `INC` and `DEC` of a pair differ in the step only, 1 or 65535 modulo 2^16 (R212, R213). -/
theorem stepPair_eq (p : Reg16) (d : Word) (s : State) :
    stepPair p d s = .next { s with
      cpu := s.cpu.setPair p (BitVec.ofNat 16 ((s.cpu.pair p).toNat + d.toNat)), cycles := 2 } := by
  rw [← BitVec.add_def]
  rfl

/-- The carries are those of the low byte, as for `LD HL,SP+e` (R214). -/
theorem execAddSPRel_eq (e : Byte) (s : State) :
    execAddSPRel e s = .next { s with
      cpu := { s.cpu with
        sp := s.cpu.sp + e.signExtend 16, zf := false, nf := false
        hf := decide (s.cpu.sp.toNat % 16 + e.toNat % 16 > 0xF)
        cf := decide (s.cpu.sp.toNat % 256 + e.toNat > 0xFF) }
      cycles := 4 } := by
  unfold execAddSPRel
  rw [spFlags_eq]
  rfl

/-- Settles O24: each row of a pair is the sum or the step of its family. -/
theorem arith16Result : Obligations.Arith16Result := by
  intro p e s
  simp only [exec_addHLPair, exec_incPair, exec_decPair]
  exact ⟨addHL_eq p s, stepPair_eq p 1 s, stepPair_eq p (-1) s, execAddSPRel_eq e s⟩

end Sys2Proof.Machine
end

section
/-! PROOFS. The rotates, the shifts and the bit instructions (44_rotate_shift_bit.md R220 to R235): what each computes,
in the numbers and the bits that the rules write. -/

set_option Elab.async false

namespace Sys2Proof.Machine

/-! The rotates and shifts as numbers. -/

/-- A shift to the left drops bit 7 and takes `x` in at bit 0. -/
theorem shiftLeft_in_eq_ofNat (v : Byte) (x : BitVec 1) :
    v.extractLsb' 0 7 ++ x = BitVec.ofNat 8 (2 * v.toNat + x.toNat) := by
  apply BitVec.eq_of_toNat_eq
  rw [toNat_append_eq, BitVec.extractLsb'_toNat, BitVec.toNat_ofNat, Nat.shiftRight_zero]
  omega

/-- A shift to the right drops bit 0 and takes `x` in at bit 7. -/
theorem shiftRight_in_eq_ofNat (v : Byte) (x : BitVec 1) :
    x ++ v.extractLsb' 1 7 = BitVec.ofNat 8 (v.toNat / 2 + 128 * x.toNat) := by
  apply BitVec.eq_of_toNat_eq
  rw [toNat_append_eq, BitVec.extractLsb'_toNat, BitVec.toNat_ofNat, Nat.shiftRight_eq_div_pow]
  omega

theorem swapNibbles_eq_ofNat (v : Byte) :
    v.extractLsb' 0 4 ++ v.extractLsb' 4 4 = BitVec.ofNat 8 (v.toNat % 16 * 16 + v.toNat / 16) := by
  have hhigh : v.toNat / 2 ^ 4 < 2 ^ 4 := by omega
  apply BitVec.eq_of_toNat_eq
  rw [toNat_append_eq, BitVec.extractLsb'_toNat, BitVec.extractLsb'_toNat, BitVec.toNat_ofNat, Nat.shiftRight_zero,
    Nat.shiftRight_eq_div_pow, Nat.mod_eq_of_lt hhigh]
  omega

theorem bit7_toNat (v : Byte) : (bit v 7).toNat = v.toNat / 128 := by
  rw [bit, BitVec.getLsbD, Nat.toNat_testBit]
  omega

theorem bit0_toNat (v : Byte) : (bit v 0).toNat = v.toNat % 2 := by
  rw [bit, BitVec.getLsbD, Nat.toNat_testBit, pow_zero, Nat.div_one]

theorem bit7_eq (v : Byte) : bit v 7 = decide (v.toNat / 128 = 1) := by
  simp only [← bit7_toNat, Bool.toNat_eq_one, Bool.decide_eq_true]

theorem bit0_eq (v : Byte) : bit v 0 = decide (v.toNat % 2 = 1) := by
  simp only [← bit0_toNat, Bool.toNat_eq_one, Bool.decide_eq_true]

/-- The result of a rotate or shift and the bit shifted out, as the numbers of R225 to R232; the result counts modulo
2^8. -/
def rotNumbers (op : RotOp) (v c : Nat) : Nat × Nat :=
  match op with
  | .rlc => (2 * v + v / 128, v / 128)
  | .rrc => (v / 2 + 128 * (v % 2), v % 2)
  | .rl => (2 * v + c, v / 128)
  | .rr => (v / 2 + 128 * c, v % 2)
  | .sla => (2 * v, v / 128)
  | .sra => (v / 2 + 128 * (v / 128), v % 2)
  | .swap => (v % 16 * 16 + v / 16, 0)
  | .srl => (v / 2, v % 2)

theorem rotValue_eq (op : RotOp) (v : Byte) (c : Bool) :
    rotValue op v c =
      (BitVec.ofNat 8 (rotNumbers op v.toNat c.toNat).1, decide ((rotNumbers op v.toNat c.toNat).2 = 1)) := by
  cases op with
  | rlc | rl | sla =>
    refine Prod.ext ((shiftLeft_in_eq_ofNat v _).trans ?_) (bit7_eq v)
    simp [rotNumbers, bit1_toNat, bit7_toNat]
  | rrc | rr | sra | srl =>
    refine Prod.ext ((shiftRight_in_eq_ofNat v _).trans ?_) (bit0_eq v)
    simp [rotNumbers, bit1_toNat, bit7_toNat, bit0_toNat]
  | swap => exact Prod.ext (swapNibbles_eq_ofNat v) rfl

theorem rotOut_eq (op : RotOp) (v : Byte) (c : Bool) :
    let r := rotNumbers op v.toNat c.toNat
    rotOut op v c = ⟨BitVec.ofNat 8 r.1, decide (r.1 % 256 = 0), false, false, decide (r.2 = 1)⟩ := by
  intro r
  simp only [rotOut, rotValue_eq, ofNat_beq_zero, r]

/-! The rows of the family. -/

theorem cbCost_eq (o : Opd8) : cbCost o = operandCost o 2 4 := by cases o <;> rfl

theorem bitCost_eq (o : Opd8) : bitCost o = operandCost o 2 3 := by cases o <;> rfl

theorem rotAcc_eq (op : RotOp) (s : State) :
    let r := rotNumbers op s.cpu.a.toNat s.cpu.cf.toNat
    rotAcc op s = .next (accResult s (BitVec.ofNat 8 r.1) false false false (decide (r.2 = 1)) 1) := by
  intro r
  rw [rotAcc, rotAccOut, rotValue_eq]
  rfl

theorem exec_rot_eq (op : RotOp) (o : Opd8) (s : State) :
    let r := rotNumbers op (s.readOpd o).toNat s.cpu.cf.toNat
    exec (.rot op o) s = .next (flagsResult (s.writeOpd o (BitVec.ofNat 8 r.1)) (decide (r.1 % 256 = 0)) false false
      (decide (r.2 = 1)) (operandCost o 2 4)) := by
  intro r
  rw [exec_rot, rotOpd, rotOut_eq, cbCost_eq]
  rfl

theorem exec_bit_eq (y : Fin 8) (o : Opd8) (s : State) :
    exec (.bit y o) s =
      .next (flagsResult s (!(s.readOpd o).getLsbD y.val) false true s.cpu.cf (operandCost o 2 3)) := by
  rw [exec_bit, bitOpd, bitCost_eq]
  rfl

theorem exec_res_eq (y : Fin 8) (o : Opd8) (s : State) :
    exec (.res y o) s = .next { s.writeOpd o (resValue y (s.readOpd o)) with cycles := operandCost o 2 4 } := by
  rw [exec_res, resOpd, cbCost_eq]
  rfl

theorem exec_set_eq (y : Fin 8) (o : Opd8) (s : State) :
    exec (.set y o) s = .next { s.writeOpd o (setValue y (s.readOpd o)) with cycles := operandCost o 2 4 } := by
  rw [exec_set, setOpd, cbCost_eq]
  rfl

/-! The bits of `RES` and `SET`. -/

/-- The mask of `RES` and `SET` has the one bit `y`. -/
theorem getLsbD_one_shiftLeft (y : Fin 8) (j : Nat) : ((1 : Byte) <<< y.val).getLsbD j = decide (j = y.val) := by
  change (BitVec.twoPow 8 y.val).getLsbD j = _
  rw [BitVec.getLsbD_twoPow, decide_eq_true y.isLt, Bool.true_and, decide_eq_decide]
  exact eq_comm

theorem getLsbD_resValue (y : Fin 8) (v : Byte) (j : Nat) :
    (resValue y v).getLsbD j = (v.getLsbD j && decide (j ≠ y.val)) := by
  rw [resValue, BitVec.getLsbD_and, BitVec.getLsbD_not, getLsbD_one_shiftLeft, decide_not]
  by_cases hj : j < 8
  · rw [decide_eq_true hj, Bool.true_and]
  · rw [BitVec.getLsbD_of_ge v j (Nat.le_of_not_lt hj), Bool.false_and, Bool.false_and]

theorem getLsbD_setValue (y : Fin 8) (v : Byte) (j : Nat) :
    (setValue y v).getLsbD j = (v.getLsbD j || decide (j = y.val)) := by
  rw [setValue, BitVec.getLsbD_or, getLsbD_one_shiftLeft]

/-! The statements of the family. -/

/-- Settles O25: each row is the rotate or shift of its operation on the accumulator or on its operand. -/
theorem rotateResult : Obligations.RotateResult := by
  intro o s
  exact ⟨rotAcc_eq .rlc s, rotAcc_eq .rrc s, rotAcc_eq .rl s, rotAcc_eq .rr s, exec_rot_eq .rlc o s,
    exec_rot_eq .rrc o s, exec_rot_eq .rl o s, exec_rot_eq .rr o s, exec_rot_eq .sla o s, exec_rot_eq .sra o s,
    exec_rot_eq .swap o s, exec_rot_eq .srl o s⟩

/-- Settles O26: the bytes written back are the operand with one bit masked out or in. -/
theorem bitResult : Obligations.BitResult := fun y o s =>
  ⟨resValue y (s.readOpd o), setValue y (s.readOpd o), getLsbD_resValue y _, getLsbD_setValue y _, exec_bit_eq y o s,
    exec_res_eq y o s, exec_set_eq y o s⟩

end Sys2Proof.Machine
end

section
/-! PROOFS. The jumps, calls, returns and restarts (45_control_flow.md R250 to R262): when a conditional row is taken,
and what a taken jump, call or return leaves. -/

set_option Elab.async false

namespace Sys2Proof.Machine

/-! The conditions (R250). -/

/-- The flag that the condition names has the value that it asks for. -/
def Cpu.Meets (c : Cpu) (k : Cond) : Prop :=
  match k with
  | .nz => c.zf = false
  | .z => c.zf = true
  | .nc => c.cf = false
  | .c => c.cf = true

theorem Cpu.holds_iff_meets (c : Cpu) (k : Cond) : c.holds k = true ↔ c.Meets k := by
  cases k with
  | nz | nc => exact Iff.of_eq (Bool.not_eq_true' _)
  | z | c => exact Iff.rfl

/-- A conditional row has its taken outcome exactly when its condition is met. -/
theorem outcome_of_cond {c : Cpu} {k : Cond} {r : Result} {taken skipped : State}
    (hr : r = .next (if c.holds k then taken else skipped)) :
    (c.Meets k → r = .next taken) ∧ (¬ c.Meets k → r = .next skipped) := by
  rw [hr, ← c.holds_iff_meets k]
  exact ⟨fun h => by rw [if_pos h], fun h => by rw [if_neg h]⟩

/-! Jumps: `PC` and the cost are written, nothing else. -/

theorem jumpTo_eq (a : Word) (m : Nat) (s : State) : jumpTo a m s = .next (pcResult s a m) := rfl

theorem jumpRel_eq (e : Byte) (s : State) : jumpRel e s = .next (pcResult s (s.cpu.pc + e.signExtend 16) 3) := rfl

theorem exec_jpCond_eq (k : Cond) (nn : Word) (s : State) :
    exec (.jpCond k nn) s = .next (if s.cpu.holds k then pcResult s nn 4 else { s with cycles := 3 }) :=
  exec_jpCond k nn s

theorem exec_jrCond_eq (k : Cond) (e : Byte) (s : State) :
    exec (.jrCond k e) s =
      .next (if s.cpu.holds k then pcResult s (s.cpu.pc + e.signExtend 16) 3 else { s with cycles := 2 }) :=
  exec_jrCond k e s

/-! Calls: a push of `PC`, then a jump. -/

/-- `s` after a call of `a` that costs `m` m-cycles, its two pushed bytes as bus writes (R256, 00_scope.md R13). -/
def afterCall (s : State) (a : Word) (m : Nat) : State :=
  { (({ s with cpu := { s.cpu with sp := s.cpu.sp - 1 } } : State).write8 (s.cpu.sp - 1) (hi s.cpu.pc)).write8
      (s.cpu.sp - 2) (lo s.cpu.pc) with
    cpu := { s.cpu with sp := s.cpu.sp - 2, pc := a }, cycles := m }

/-- The `PC` pushed is the one before the jump, and the pushes leave the other CPU registers. -/
theorem State.call_cost (s : State) (a : Word) (m : Nat) : (s.call a).cost m = afterCall s a m := by
  unfold State.call State.jump
  rw [State.push16_cpu, State.push16_eq]
  rfl

theorem callTo_eq (a : Word) (m : Nat) (s : State) : callTo a m s = .next (afterCall s a m) := by
  rw [callTo, State.call_cost]

theorem exec_callCond_eq (k : Cond) (nn : Word) (s : State) :
    exec (.callCond k nn) s = .next (if s.cpu.holds k then afterCall s nn 6 else { s with cycles := 3 }) := by
  rw [exec_callCond, callIf, State.call_cost]
  rfl

/-! Returns: `PC` becomes the word at the top of the stack, read before `SP` moves. -/

/-- `s` after a return that leaves `ime` in `IME` and costs `m` m-cycles (R258, R260). -/
def afterReturn (s : State) (ime : Bool) (m : Nat) : State :=
  { s with
    cpu := { s.cpu with pc := s.read8 (s.cpu.sp + 1) ++ s.read8 s.cpu.sp, sp := s.cpu.sp + 2, ime := ime }
    cycles := m }

theorem retStep_eq (s : State) : retStep s = .next (afterReturn s s.cpu.ime 4) := rfl

theorem execReti_eq (s : State) : execReti s = .next (afterReturn s true 4) := rfl

theorem exec_retCond_eq (k : Cond) (s : State) :
    exec (.retCond k) s = .next (if s.cpu.holds k then afterReturn s s.cpu.ime 5 else { s with cycles := 2 }) :=
  exec_retCond k s

/-! The statements of the family. -/

/-- Settles O27: each row is one write of `PC`, under its condition if it has one. -/
theorem jumpResult : Obligations.JumpResult := by
  intro k nn e s
  obtain ⟨jp_taken, jp_skipped⟩ := outcome_of_cond (exec_jpCond_eq k nn s)
  obtain ⟨jr_taken, jr_skipped⟩ := outcome_of_cond (exec_jrCond_eq k e s)
  exact ⟨jumpTo_eq nn 4 s, jumpTo_eq s.cpu.hl 1 s, jumpRel_eq e s, fun h => ⟨jp_taken h, jr_taken h⟩,
    fun h => ⟨jp_skipped h, jr_skipped h⟩⟩

/-- Settles O28: each row is the call of its target, under its condition if it has one. -/
theorem callResult : Obligations.CallResult := by
  intro k nn y s
  exact ⟨callTo_eq nn 6 s, (exec_rst y s).trans (callTo_eq _ 4 s), outcome_of_cond (exec_callCond_eq k nn s)⟩

/-- Settles O29: each row is the return, under its condition if it has one, and `RETI` writes `IME` after it. -/
theorem returnResult : Obligations.ReturnResult := by
  intro k s
  exact ⟨retStep_eq s, execReti_eq s, outcome_of_cond (exec_retCond_eq k s)⟩

end Sys2Proof.Machine
end

section
/-! PROOFS. The system and control instructions (46_system_control.md R270 to R281): the plain fetch and the fetch after
a bugged `HALT` as one step rule, what the rest of the step leaves with and without a dispatch, and which instructions
keep a pending `EI`. -/

set_option Elab.async false

namespace Sys2Proof.Machine

/-! The rest of the step (60_exceptions.md R300), steps 4 to 6. -/

@[simp] theorem State.tick_cpu (n : Nat) (s : State) : (State.tick n s).cpu = s.cpu :=
  State.tick_field State.cpu State.tick1_cpu n s

theorem State.interruptCheck_of_pending {s : State} (hf : s.cpu.frozen = false) (hi : s.cpu.ime = true)
    (hp : s.irq.pending = true) : s.interruptCheck = State.tick 20 s.service :=
  if_pos (by simp [State.dispatches, hf, hi, hp])

theorem State.interruptCheck_of_not_dispatches {s : State}
    (h : s.cpu.frozen = true ∨ s.cpu.ime = false ∨ s.irq.pending = false) : s.interruptCheck = s :=
  if_neg (by rcases h with h | h | h <;> simp [State.dispatches, h])

/-- The commit writes `IME` and `ei_pending` only. -/
theorem State.commitEi_frozen (arm : Bool) (s : State) : (s.commitEi arm).cpu.frozen = s.cpu.frozen := by
  unfold State.commitEi
  split <;> rfl

theorem State.commitEi_of_not_armed {arm : Bool} {s : State} (h : arm = false ∨ s.cpu.eiPending = false) :
    s.commitEi arm = s :=
  if_neg (by rcases h with h | h <;> simp [h])

/-- With no `EI` to commit and `IME = 0` the rest of the step leaves the CPU registers. -/
theorem State.finish_cpu {arm : Bool} {s : State} (hei : arm = false ∨ s.cpu.eiPending = false)
    (hime : s.cpu.ime = false) : (s.finish arm).cpu = s.cpu := by
  unfold State.finish
  rw [State.commitEi_of_not_armed (s := s.cost 0) hei, State.interruptCheck_of_not_dispatches (.inr (.inl ?_)),
    State.tick_cpu]
  · rfl
  · rwa [State.tick_cpu]

/-- `s`, left by an instruction, after the commit of an `EI` and the tick by the cost of the instruction. -/
def State.afterEi (s : State) : State :=
  State.tick (4 * s.cycles) { s with cpu := { s.cpu with ime := true, eiPending := false }, cycles := 0 }

theorem State.afterEi_cpu (s : State) : s.afterEi.cpu = { s.cpu with ime := true, eiPending := false } :=
  State.tick_cpu _ _

/-- The cost tells the tick how long it is, and is gone after it. -/
theorem State.afterEi_cost (s : State) (n : Nat) : (s.cost n).afterEi =
    (State.tick (4 * n) (s.setCpu { s.cpu with ime := true, eiPending := false })).cost 0 :=
  State.tick_cost (4 * n) 0 (s.setCpu { s.cpu with ime := true, eiPending := false })

/-- With `IME` set by the commit the dispatch hangs on the freeze and on a pending interrupt alone. -/
theorem State.interruptCheck_afterEi (s : State) :
    (s.afterEi.cpu.frozen = false → s.afterEi.irq.pending = true →
      s.afterEi.interruptCheck = State.tick 20 s.afterEi.service) ∧
    (s.afterEi.cpu.frozen = true ∨ s.afterEi.irq.pending = false → s.afterEi.interruptCheck = s.afterEi) := by
  have hime : s.afterEi.cpu.ime = true := congrArg Cpu.ime s.afterEi_cpu
  exact ⟨fun hf hp => State.interruptCheck_of_pending hf hime hp,
    fun h => State.interruptCheck_of_not_dispatches (h.imp_right .inr)⟩

/-- A pending `EI` that the instruction has kept is committed before the interrupt check. -/
theorem State.finish_of_eiPending {s : State} (h : s.cpu.eiPending = true) :
    s.finish true = s.afterEi.interruptCheck := by
  unfold State.finish
  rw [State.commitEi, if_pos (by simp [h])]
  rfl

/-- A dispatch leaves `ei_pending` (R315). -/
theorem State.interruptCheck_eiPending (s : State) : s.interruptCheck.cpu.eiPending = s.cpu.eiPending := by
  unfold State.interruptCheck
  split
  · rw [State.tick_cpu, State.service_cpu]
    rfl
  · rfl

/-! The step of a running CPU, by the bytes that it fetches (R301, R322). -/

theorem Cpu.afterFetch_of_plain {c : Cpu} (h : c.haltBug = false) : c.afterFetch = { c with pc := c.pc + 1 } :=
  if_neg (by simp [h])

theorem Cpu.afterFetch_of_bug {c : Cpu} (h : c.haltBug = true) : c.afterFetch = { c with haltBug := false } := if_pos h

/-- `s` with the CPU as the fetch of an instruction of `n` bytes leaves it: a bugged `HALT` before it holds `PC` back
by one. -/
def State.fetched (s : State) (n : Nat) : State :=
  { s with cpu := { s.cpu with
    pc := s.cpu.pc + BitVec.ofNat 16 (if s.cpu.haltBug then n - 1 else n), haltBug := false } }

/-- The three bytes that the fetch looks at: after a bugged `HALT` the one at `PC` twice. -/
def State.codeBytes (s : State) : List Byte :=
  if s.cpu.haltBug then [s.read8 s.cpu.pc, s.read8 s.cpu.pc, s.read8 (s.cpu.pc + 1)]
  else [s.read8 s.cpu.pc, s.read8 (s.cpu.pc + 1), s.read8 (s.cpu.pc + 2)]

/-- With `halt_bug` 0 the fetch moves `PC` past the instruction and does nothing else. -/
theorem State.fetched_of_plain {s : State} (hb : s.cpu.haltBug = false) (n : Nat) :
    s.fetched n = s.jump (s.cpu.pc + BitVec.ofNat 16 n) := by
  simp [State.fetched, State.jump, State.setCpu, hb]

/-- An opcode and the operand bytes after it are as many as the instruction has (R14). -/
theorem add_one_add_lengthOf (pc : Word) (op : Byte) :
    pc + 1 + BitVec.ofNat 16 (lengthOf op - 1) = pc + BitVec.ofNat 16 (lengthOf op) := by
  have hlen := (lengthOf_bounds op).1
  have hsum : (1 : Word) + BitVec.ofNat 16 (lengthOf op - 1) = BitVec.ofNat 16 (1 + (lengthOf op - 1)) :=
    (BitVec.ofNat_add 1 _).symm
  rw [BitVec.add_assoc, hsum, Nat.add_sub_cancel' hlen]

theorem State.fetchInstr_of_decode {s : State} {i : Instr} {n : Nat} (h : decode s.codeBytes = .ok (i, n)) :
    s.fetchInstr = (i, s.fetched n) := by
  cases hb : s.cpu.haltBug with
  | true =>
    rw [State.codeBytes, if_pos hb, decode_three] at h
    obtain ⟨rfl, rfl⟩ := Prod.mk.inj (Except.ok.inj h)
    rw [State.fetchInstr, State.fetch8, Cpu.afterFetch_of_bug hb, State.fetched, if_pos hb]
    rfl
  | false =>
    rw [State.codeBytes, if_neg (by simp [hb]), decode_three] at h
    obtain ⟨rfl, rfl⟩ := Prod.mk.inj (Except.ok.inj h)
    have hthird : s.cpu.pc + 2 = s.cpu.pc + 1 + 1 := (BitVec.add_assoc s.cpu.pc 1 1).symm
    rw [State.fetched_of_plain hb, ← add_one_add_lengthOf, hthird, State.fetchInstr, State.fetch8,
      Cpu.afterFetch_of_plain hb]
    rfl

theorem step_of_decode {s : State} {i : Instr} {n : Nat} (hf : s.cpu.frozen = false) (hw : s.cpu.waiting = false)
    (h : decode s.codeBytes = .ok (i, n)) : step s = onNext (State.finish s.cpu.eiPending) (exec i (s.fetched n)) := by
  unfold step State.execute
  rw [State.wake_of_running hw, hf, hw, State.fetchInstr_of_decode h]
  rfl

/-- The step of an opcode that is a whole instruction, fetched in the plain way. -/
theorem step_of_opcode {s : State} {op : Byte} {i : Instr} (hf : s.cpu.frozen = false) (hw : s.cpu.waiting = false)
    (hb : s.cpu.haltBug = false) (hop : s.read8 s.cpu.pc = op) (hi : ∀ b1 b2, decodeOp op b1 b2 = i)
    (hn : lengthOf op = 1) :
    step s = onNext (State.finish s.cpu.eiPending) (exec i (s.jump (s.cpu.pc + 1))) := by
  have hbytes : decode s.codeBytes = .ok (i, 1) := by
    unfold State.codeBytes
    rw [hb, hop]
    exact decode_three_eq (hi _ _) hn _
  rw [step_of_decode hf hw hbytes, State.fetched_of_plain hb]
  rfl

/-! Which instructions keep a pending `EI` (R274, R275): all but `DI`. -/

theorem Cpu.haltOrBug_eiPending (c : Cpu) (p : Bool) : (c.haltOrBug p).eiPending = c.eiPending := by
  unfold Cpu.haltOrBug
  split <;> rfl

theorem Cpu.stopOrBug_eiPending (c : Cpu) (p : Bool) : (c.stopOrBug p).eiPending = c.eiPending := by
  unfold Cpu.stopOrBug
  split <;> rfl

/-- The outcome is a next state in which an `EI` that is pending in `s` is still pending. -/
def KeepsEi (s : State) (r : Result) : Prop :=
  ∃ t, r = .next t ∧ (s.cpu.eiPending = true → t.cpu.eiPending = true)

theorem keepsEi_cost {s t : State} (h : t.cpu.eiPending = s.cpu.eiPending) (n : Nat) : KeepsEi s (.next (t.cost n)) :=
  ⟨_, rfl, h.trans⟩

theorem keepsEi_ite {s t u : State} {p : Bool} {m n : Nat} (ht : t.cpu.eiPending = s.cpu.eiPending)
    (hu : u.cpu.eiPending = s.cpu.eiPending) : KeepsEi s (.next (if p then t.cost m else u.cost n)) := by
  cases p
  · exact keepsEi_cost hu n
  · exact keepsEi_cost ht m

theorem State.write8_eiPending (s : State) (a : Word) (v : Byte) : (s.write8 a v).cpu.eiPending = s.cpu.eiPending := by
  rw [State.write8_cpu]

theorem State.push16_eiPending (s : State) (v : Word) : (s.push16 v).cpu.eiPending = s.cpu.eiPending := by
  rw [State.push16_cpu]

theorem State.call_eiPending (s : State) (a : Word) : (s.call a).cpu.eiPending = s.cpu.eiPending :=
  s.push16_eiPending _

theorem keepsEi_stepPair (p : Reg16) (d : Word) (s : State) : KeepsEi s (stepPair p d s) :=
  keepsEi_cost (by cases p <;> rfl) 2

theorem keepsEi_storeAccStep (d : Word) (s : State) : KeepsEi s (storeAccStep d s) :=
  ⟨_, rfl, (s.write8_eiPending _ _).trans⟩

theorem keepsEi_memResult (o : AluOut) (s : State) : KeepsEi s (memResult o s) :=
  ⟨_, rfl, (s.write8_eiPending _ _).trans⟩

theorem keepsEi_rotMem (op : RotOp) (s : State) : KeepsEi s (rotOpd op .memHL s) :=
  ⟨_, rfl, (s.write8_eiPending _ _).trans⟩

theorem keepsEi_resMem (y : Fin 8) (s : State) : KeepsEi s (resOpd y .memHL s) :=
  keepsEi_cost (s.write8_eiPending _ _) 4

theorem keepsEi_setMem (y : Fin 8) (s : State) : KeepsEi s (setOpd y .memHL s) :=
  keepsEi_cost (s.write8_eiPending _ _) 4

/-- Every whole instruction but `DI` keeps a pending `EI`. A row that only writes other CPU registers does by
definition; the rows named here step a pair, store to the bus, push, wait, or have two outcomes. -/
theorem exec_keepsEi {i : Instr} (hw : WellFormed i) (hi : i ≠ .di) (s : State) : KeepsEi s (exec i s) := by
  cases i
  case di => exact absurd rfl hi
  case prefixCB => cases hw
  case ei => exact ⟨_, rfl, fun _ => rfl⟩
  case halt => exact keepsEi_cost (s.cpu.haltOrBug_eiPending _) 1
  case stop => exact keepsEi_cost (s.cpu.stopOrBug_eiPending _) 1
  case ldMemBCA | ldMemDEA | ldMemHLImm8 | ldMemHLB | ldMemHLC | ldMemHLD | ldMemHLE | ldMemHLH | ldMemHLL | ldMemHLA
      | ldhMemImm8A | ldhMemCA | ldMemImm16A => exact keepsEi_cost (s.write8_eiPending _ _) _
  case ldMemHLIncA | ldMemHLDecA => exact keepsEi_storeAccStep _ s
  case incMemHL | decMemHL => exact keepsEi_memResult _ s
  case incBC | incDE | incHL | incSP | decBC | decDE | decHL | decSP => exact keepsEi_stepPair _ _ s
  case ldMemImm16SP => exact keepsEi_cost ((State.write8_eiPending _ _ _).trans (s.write8_eiPending _ _)) _
  case pushBC | pushDE | pushHL | pushAF => exact keepsEi_cost (s.push16_eiPending _) _
  case rst00 | rst08 | rst10 | rst18 | rst20 | rst28 | rst30 | rst38 | callImm16 =>
    exact keepsEi_cost (s.call_eiPending _) _
  case callNZImm16 | callZImm16 | callNCImm16 | callCImm16 => exact keepsEi_ite (s.call_eiPending _) rfl
  case jrNZRel | jrZRel | jrNCRel | jrCRel | jpNZImm16 | jpZImm16 | jpNCImm16 | jpCImm16 | retNZ | retZ | retNC
      | retC =>
    exact keepsEi_ite rfl rfl
  case rlcMemHL | rrcMemHL | rlMemHL | rrMemHL | slaMemHL | sraMemHL | swapMemHL | srlMemHL => exact keepsEi_rotMem _ s
  case res0MemHL | res1MemHL | res2MemHL | res3MemHL | res4MemHL | res5MemHL | res6MemHL | res7MemHL =>
    exact keepsEi_resMem _ s
  case set0MemHL | set1MemHL | set2MemHL | set3MemHL | set4MemHL | set5MemHL | set6MemHL | set7MemHL =>
    exact keepsEi_setMem _ s
  all_goals exact keepsEi_cost rfl _

/-! Entering a wait (R272, R273). -/

/-- When `HALT` and `STOP` do not wait. -/
def State.bugsHalt (s : State) : Bool := !s.cpu.ime && s.irq.pending

theorem State.bugsHalt_iff (s : State) :
    s.bugsHalt = true ↔ s.cpu.ime = false ∧ s.irq.ie &&& s.irq.iflag ≠ 0 := by
  rw [State.bugsHalt, Bool.and_eq_true, Bool.not_eq_true', Irq.pending, Irq.active, bne_iff_ne]

theorem exec_halt (s : State) : exec .halt s = .next (if s.bugsHalt
    then { s with cpu := { s.cpu with haltBug := true }, cycles := 1 }
    else { s with cpu := { s.cpu with halted := true }, cycles := 1 }) := by
  show execHalt s = _
  unfold execHalt Cpu.haltOrBug State.bugsHalt
  split <;> rfl

theorem exec_stop (s : State) : exec .stop s = .next (if s.bugsHalt
    then { s with cpu := { s.cpu with haltBug := true }, cycles := 1 }
    else { s with cpu := { s.cpu with stopped := true }, cycles := 1 }) := by
  show execStop s = _
  unfold execStop Cpu.stopOrBug State.bugsHalt
  split <;> rfl

/-- The prefix row is the row of the `CB` map that the byte fetched next selects (R276). -/
theorem exec_prefixCB (s : State) :
    exec .prefixCB s = exec (decodeCB (s.read8 s.cpu.pc)) (s.setCpu s.cpu.afterFetch) :=
  (exec_decodeCB _ _).symm

/-! The statements of the family. -/

/-- Settles O9: the freeze leaves nothing but `frozen` and the cost, and a frozen core dispatches nothing. -/
theorem freezeResult : Obligations.FreezeResult := by
  intro op s
  refine ⟨exec_illegal op s, fun arm t ht => ?_⟩
  obtain rfl : s.freeze.cost 1 = t := Host.Outcome.next.inj ((exec_illegal op s).symm.trans ht)
  refine State.interruptCheck_of_not_dispatches (.inl ?_)
  rw [State.tick_cpu, State.commitEi_frozen]
  rfl

/-- Settles O12: an `EI` does nothing in its own step because it was not pending when the step began; the next
instruction keeps it pending unless it is `DI`, and the commit comes before the tick and the interrupt check. -/
theorem eiTakesEffectOneInstructionLate : Obligations.EiTakesEffectOneInstructionLate := by
  refine ⟨?ei, ?any, ?nop, ?di⟩
  case ei =>
    intro s hf hw hb hime hei hop
    refine ⟨_, step_of_opcode (i := .ei) hf hw hb hop (fun _ _ => rfl) (by decide), ?_⟩
    exact State.finish_cpu (.inl hei) hime
  case any =>
    intro s i n hf hw hei hdec hwf hdi
    have hbytes : decode s.codeBytes = .ok (i, n) := by rw [← hdec, State.codeBytes, apply_ite decode]
    obtain ⟨u, hu, hkept⟩ := exec_keepsEi hwf hdi (s.fetched n)
    have hstep : step s = .next u.afterEi.interruptCheck := by
      rw [step_of_decode hf hw hbytes, hu, hei, onNext, State.finish_of_eiPending (hkept hei)]
    exact ⟨u, u.afterEi, _, hu, rfl, congrArg Cpu.ime u.afterEi_cpu, congrArg Cpu.eiPending u.afterEi_cpu, hstep,
      u.interruptCheck_afterEi⟩
  case nop =>
    intro s hf hw hb hei hop
    have hstep := step_of_opcode (i := .nop) hf hw hb hop (fun _ _ => rfl) (by decide)
    have hfinish := State.finish_of_eiPending (s := (s.jump (s.cpu.pc + 1)).cost 1) hei
    rw [hei] at hstep
    refine ⟨_, _, hstep.trans (congrArg Host.Outcome.next hfinish), ?_, rfl, ?_⟩
    · rw [State.interruptCheck_eiPending, State.afterEi_cpu]
    · obtain ⟨hserve, hskip⟩ := State.interruptCheck_afterEi ((s.jump (s.cpu.pc + 1)).cost 1)
      have hfrozen := (congrArg Cpu.frozen (State.afterEi_cpu ((s.jump (s.cpu.pc + 1)).cost 1))).trans hf
      rw [State.afterEi_cost] at hserve hskip hfrozen ⊢
      exact ⟨fun hp => hskip (.inr hp), hserve hfrozen⟩
  case di =>
    intro s hf hw hb hop
    refine ⟨_, step_of_opcode (i := .di) hf hw hb hop (fun _ _ => rfl) (by decide), ?_⟩
    exact State.finish_cpu (.inr rfl) rfl

/-- Settles O30: each row by its definition, and the prefix row through the `CB` map. -/
theorem systemResult : Obligations.SystemResult := by
  intro s
  rw [exec_halt, exec_stop]
  refine ⟨rfl, rfl, rfl, fun h => ?bug, fun h => ?wait, ?cb⟩
  case bug =>
    rw [if_pos (s.bugsHalt_iff.mpr h), if_pos (s.bugsHalt_iff.mpr h)]
    exact ⟨rfl, rfl⟩
  case wait =>
    have hnot : ¬ s.bugsHalt = true := by
      rw [State.bugsHalt_iff, not_and_or, Bool.not_eq_false, not_not]
      exact h
    rw [if_neg hnot, if_neg hnot]
    exact ⟨rfl, rfl⟩
  case cb =>
    obtain ⟨t, ht, -⟩ := exec_built .prefixCB s
    exact ⟨t, ht, (exec_prefixCB s).symm.trans ht⟩

end Sys2Proof.Machine
end

section
/-! PROOFS. The timer (60_exceptions.md R335 to R340): when the timer signal falls, what a t-cycle does to the counter,
`TIMA` and the reload countdown, and where in an m-cycle the reload falls. -/

set_option Elab.async false

namespace Sys2Proof.Machine

/-! The falling edge of the timer signal (R335, R340). -/

/-- How many t-cycles lie between two falling edges of the counter bit that `TAC` selects (R339). -/
def Timer.period (t : Timer) : Nat := 2 ^ (timerBit (t.tac.extractLsb' 0 2) + 1)

/-- The four selections of `TAC[1:0]` (R339): the counter bit and its period. -/
theorem timerBit_period_eq (tac : BitVec 3) :
    timerBit (tac.extractLsb' 0 2) = (match tac.toNat % 4 with | 0 => 9 | 1 => 3 | 2 => 5 | _ => 7) ∧
    2 ^ (timerBit (tac.extractLsb' 0 2) + 1) =
      (match tac.toNat % 4 with | 0 => 1024 | 1 => 16 | 2 => 64 | _ => 256) := by
  revert tac
  decide

/-- Every selected period is a multiple of four m-cycles and divides the range of the counter. -/
theorem Timer.period_dvd (t : Timer) : 16 ∣ t.period ∧ t.period ∣ 65536 := by
  have h (sel : BitVec 2) : 16 ∣ 2 ^ (timerBit sel + 1) ∧ 2 ^ (timerBit sel + 1) ∣ 65536 := by
    revert sel
    decide
  exact h _

/-- A selected counter bit falls exactly when the counter reaches a multiple of the bit's period. -/
theorem timerBit_falls (x : BitVec 16) (sel : BitVec 2) :
    (bit x (timerBit sel) && !bit (x + 1) (timerBit sel)) = decide (2 ^ (timerBit sel + 1) ∣ x.toNat + 1) := by
  have key (k : Nat) (hk : k = 9 ∨ k = 3 ∨ k = 5 ∨ k = 7) :
      (bit x k && !bit (x + 1) k) = decide (2 ^ (k + 1) ∣ x.toNat + 1) := by
    have hx := x.isLt
    rw [Bool.eq_iff_iff]
    simp only [bit_eq, BitVec.getLsbD, Nat.testBit_eq_decide_div_mod_eq, BitVec.toNat_add, Bool.and_eq_true,
      Bool.not_eq_true', decide_eq_true_eq, decide_eq_false_iff_not, BitVec.ofNat_eq_ofNat, BitVec.toNat_ofNat]
    rcases hk with rfl | rfl | rfl | rfl <;> omega
  exact key _ (by revert sel; decide)

/-- The enabled timer signal falls in the t-cycle that takes the counter to a multiple of the period. -/
theorem Timer.signal_falls (t : Timer) : (t.signal && !Timer.signal { t with sysclk := t.sysclk + 1 }) =
    (bit t.tac 2 && decide (t.period ∣ t.sysclk.toNat + 1)) := by
  unfold Timer.period Timer.signal
  rw [← timerBit_falls]
  cases bit t.tac 2 <;> rfl

/-! What the operations of the timer do to each register. -/

@[simp] theorem Timer.timaIncrement_sysclk (t : Timer) : t.timaIncrement.sysclk = t.sysclk := by
  unfold Timer.timaIncrement
  split <;> rfl

@[simp] theorem Timer.timaIncrement_tac (t : Timer) : t.timaIncrement.tac = t.tac := by
  unfold Timer.timaIncrement
  split <;> rfl

@[simp] theorem Timer.timaIncrement_tima (t : Timer) : t.timaIncrement.tima = t.tima + 1 := by
  unfold Timer.timaIncrement
  split
  · next h => rw [h]; rfl
  · rfl

@[simp] theorem Timer.timaIncrement_reload (t : Timer) :
    t.timaIncrement.reload = if t.tima = 0xFF then 4 else t.reload := by
  unfold Timer.timaIncrement
  split <;> rfl

/-- The countdown touches `TIMA` and the countdown itself (R340). -/
theorem Timer.countdown_eq (t : Timer) :
    t.countdown.1 = { t with reload := t.reload - 1, tima := if t.reload = 1 then t.tma else t.tima } ∧
    t.countdown.2 = decide (t.reload = 1) := by
  obtain ⟨sysclk, tima, tma, tac, _ | _ | n⟩ := t <;> simp [Timer.countdown]

/-- `TIMA` counts when the timer is enabled and the counter reaches a multiple of the period. -/
theorem Timer.count_eq (t : Timer) :
    t.count = if bit t.tac 2 = true ∧ t.period ∣ t.sysclk.toNat + 1
      then Timer.timaIncrement { t with sysclk := t.sysclk + 1 } else { t with sysclk := t.sysclk + 1 } := by
  unfold Timer.count Timer.edge
  rw [Timer.signal_falls]
  simp only [Bool.and_eq_true, decide_eq_true_eq]

@[simp] theorem Timer.count_sysclk (t : Timer) : t.count.sysclk = t.sysclk + 1 := by
  rw [Timer.count_eq]
  split
  · rw [Timer.timaIncrement_sysclk]
  · rfl

@[simp] theorem Timer.count_tac (t : Timer) : t.count.tac = t.tac := by
  rw [Timer.count_eq]
  split
  · rw [Timer.timaIncrement_tac]
  · rfl

/-- A countdown of the reload starts at a multiple of every period, and only there. -/
theorem Timer.count_reload (t : Timer) :
    t.count.reload = t.reload ∨ (16 ∣ t.sysclk.toNat + 1 ∧ t.count.reload = 4) := by
  rw [Timer.count_eq]
  split
  · next hedge =>
    rw [Timer.timaIncrement_reload]
    split
    · exact .inr ⟨t.period_dvd.1.trans hedge.2, rfl⟩
    · exact .inl rfl
  · exact .inl rfl

/-- Between two multiples of the period a t-cycle moves the counter and the countdown only. -/
theorem Timer.count_of_not_dvd {t : Timer} (h : ¬ 16 ∣ t.sysclk.toNat + 1) :
    t.count = { t with sysclk := t.sysclk + 1 } := by
  rw [Timer.count_eq, if_neg (fun hedge => h (t.period_dvd.1.trans hedge.2))]

theorem Timer.tick1_eq (t : Timer) : t.tick1.1 =
    Timer.count { t with reload := t.reload - 1, tima := if t.reload = 1 then t.tma else t.tima } :=
  congrArg Timer.count t.countdown_eq.1

theorem Timer.tick1_sysclk (t : Timer) : t.tick1.1.sysclk = t.sysclk + 1 := by
  rw [Timer.tick1_eq, Timer.count_sysclk]

theorem Timer.tick1_tac (t : Timer) : t.tick1.1.tac = t.tac := by
  rw [Timer.tick1_eq, Timer.count_tac]

/-- With no reload under way a t-cycle is its count. -/
theorem Timer.tick1_of_idle {t : Timer} (h : t.reload = 0) : t.tick1.1 = t.count := by
  rw [Timer.tick1, Timer.countdown, h]

/-! `n` t-cycles of the timer. -/

theorem Timer.ticks_succ (n : Nat) (t : Timer) : Timer.ticks (n + 1) t = (Timer.ticks n t).tick1.1 := by
  induction n generalizing t with
  | zero => rfl
  | succ n ih => exact ih t.tick1.1

theorem Timer.ticks_sysclk (n : Nat) (t : Timer) : (Timer.ticks n t).sysclk = t.sysclk + BitVec.ofNat 16 n := by
  induction n with
  | zero => exact (BitVec.add_zero _).symm
  | succ n ih =>
    rw [Timer.ticks_succ, Timer.tick1_sysclk, ih, BitVec.ofNat_add, BitVec.add_assoc]
    rfl

theorem Timer.ticks_tac (n : Nat) (t : Timer) : (Timer.ticks n t).tac = t.tac := by
  induction n with
  | zero => rfl
  | succ n ih => rw [Timer.ticks_succ, Timer.tick1_tac, ih]

theorem Timer.ticks_period (n : Nat) (t : Timer) : (Timer.ticks n t).period = t.period :=
  congrArg (fun tac : BitVec 3 => 2 ^ (timerBit (tac.extractLsb' 0 2) + 1)) (t.ticks_tac n)

/-- The timer of the machine runs by itself: no other device reaches it. -/
theorem State.tick_timer (n : Nat) (s : State) : (State.tick n s).timer = Timer.ticks n s.timer := by
  induction n generalizing s with
  | zero => rfl
  | succ n ih => exact ih s.tick1

theorem State.tick_succ (n : Nat) (s : State) : State.tick (n + 1) s = (State.tick n s).tick1 :=
  State.tick_add n 1 s

/-! Where in an m-cycle the reload falls (R340). -/

/-- A reload under way ends when the counter next reaches a multiple of 4. -/
def Timer.InPhase (t : Timer) : Prop := t.reload = 0 ∨ t.reload + t.sysclk.toNat % 4 = 4

theorem Timer.tick1_inPhase {t : Timer} (h : t.InPhase) : t.tick1.1.InPhase := by
  have hnext : (t.sysclk + 1).toNat = (t.sysclk.toNat + 1) % 65536 := BitVec.toNat_add _ _
  unfold Timer.InPhase at h ⊢
  rw [Timer.tick1_sysclk, hnext, Timer.tick1_eq]
  have hcount := Timer.count_reload
    { t with reload := t.reload - 1, tima := if t.reload = 1 then t.tma else t.tima }
  dsimp only at hcount
  omega

/-- At a multiple of 4 being in phase is the invariant of the instruction boundary. -/
theorem timerInv_iff (s : State) : TimerInv s ↔ s.timer.sysclk.toNat % 4 = 0 ∧ s.timer.InPhase := by
  unfold TimerInv Timer.InPhase
  omega

theorem State.tick4_timerInv {s : State} (h : TimerInv s) : TimerInv (State.tick 4 s) := by
  rw [timerInv_iff] at h ⊢
  obtain ⟨hclock, hphase⟩ := h
  refine ⟨?_, State.tick_keeps (P := fun u => u.timer.InPhase) (fun _ hu => Timer.tick1_inPhase hu) 4 s hphase⟩
  rw [State.tick_timer, Timer.ticks_sysclk]
  bv_omega

/-- Everything a bus write can do to the timer. -/
theorem State.write8_timer (s : State) (a : Word) (v : Byte) : (s.write8 a v).timer ∈
    [s.timer, s.timer.writeDiv, s.timer.writeTima v, s.timer.writeTma v, s.timer.writeTac v] := by
  have kept {t : Timer} (h : t = s.timer) :
      t ∈ [s.timer, s.timer.writeDiv, s.timer.writeTima v, s.timer.writeTma v, s.timer.writeTac v] :=
    h ▸ List.mem_cons_self
  rcases s.write8_cases a v with e | ⟨k, -, e⟩ | e | e | e | ⟨r, -, e⟩ <;> rw [e]
  case inr.inr.inr.inr.inr =>
    cases r
    case div => exact .tail _ (.head _)
    case tima => exact .tail _ (.tail _ (.head _))
    case tma => exact .tail _ (.tail _ (.tail _ (.head _)))
    case tac => exact .tail _ (.tail _ (.tail _ (.tail _ (.head _))))
    case dma =>
      show (s.oamDma v).timer ∈ _
      rw [State.oamDma_eq]
      exact kept rfl
    all_goals exact kept rfl
  all_goals exact kept rfl

/-- An increment of `TIMA` outside a t-cycle keeps the countdown at one of its values at an instruction boundary. -/
theorem Timer.timaIncrement_boundary {t : Timer} (h : t.reload = 0 ∨ t.reload = 4) :
    t.timaIncrement.reload = 0 ∨ t.timaIncrement.reload = 4 := by
  rw [Timer.timaIncrement_reload]
  split
  · exact .inr rfl
  · exact h

theorem State.write8_timerInv {s : State} (h : TimerInv s) (a : Word) (v : Byte) : TimerInv (s.write8 a v) := by
  obtain ⟨hclock, hreload⟩ := h
  have hw := s.write8_timer a v
  unfold TimerInv
  generalize (s.write8 a v).timer = t at hw
  simp only [List.mem_cons, List.not_mem_nil, or_false] at hw
  rcases hw with rfl | rfl | rfl | rfl | rfl
  · exact ⟨hclock, hreload⟩
  · unfold Timer.writeDiv
    split
    · exact ⟨by simp, Timer.timaIncrement_boundary (by exact hreload)⟩
    · exact ⟨rfl, hreload⟩
  · exact ⟨hclock, .inl rfl⟩
  · exact ⟨hclock, hreload⟩
  · unfold Timer.writeTac Timer.edge
    split
    · exact ⟨by simpa using hclock, Timer.timaIncrement_boundary (by exact hreload)⟩
    · exact ⟨hclock, hreload⟩

/-- Settles O58: four t-cycles keep a reload in phase with the counter, and the register writes start one at the
boundary, cancel it, or clear the counter. -/
theorem stepKeepsTimerPhase : Obligations.StepKeepsTimerPhase := fun _ _ =>
  step_keeps (P := TimerInv) (fun _ _ h => h) (fun _ _ h => h) (fun _ _ h => h)
    (fun _ a v h => State.write8_timerInv h a v) fun _ => State.tick4_timerInv

/-! The write of `DIV` (R336). -/

theorem Timer.signal_eq (t : Timer) :
    t.signal = (t.tac.getLsbD 2 && t.sysclk.getLsbD
      (match t.tac.toNat % 4 with | 0 => 9 | 1 => 3 | 2 => 5 | _ => 7)) :=
  congrArg (fun k => bit t.tac 2 && bit t.sysclk k) (timerBit_period_eq t.tac).1

theorem Timer.writeDiv_sysclk (t : Timer) : t.writeDiv.sysclk = 0 := by
  unfold Timer.writeDiv
  split
  · exact Timer.timaIncrement_sysclk _
  · rfl

theorem Timer.writeDiv_tima (t : Timer) : t.writeDiv.tima = if t.signal then t.tima + 1 else t.tima := by
  unfold Timer.writeDiv
  split
  · exact Timer.timaIncrement_tima _
  · rfl

theorem Timer.writeDiv_reload (t : Timer) :
    t.writeDiv.reload = if t.signal = true ∧ t.tima = 0xFF then 4 else t.reload := by
  unfold Timer.writeDiv
  split
  · next h => simp [h]
  · next h => simp [h]

/-- Settles O37: the clearing of the counter is a falling edge of every bit that was 1. -/
theorem divWrite : Obligations.DivWrite := by
  intro s v t k falls
  have ht : t = s.writeDiv := State.write8_of_ioReg (a := 0xFF04) (r := .div) rfl rfl s v
  have hfalls : falls = s.timer.signal := s.timer.signal_eq.symm
  have hread : t.read8 0xFF04 = t.timer.readDiv := State.read8_of_ioReg (a := 0xFF04) (r := .div) rfl rfl t
  have hclock : t.timer.sysclk = 0 := ht ▸ s.timer.writeDiv_sysclk
  refine ⟨hclock, ?_, ?_, ?_, ?_⟩
  · rw [hread, Timer.readDiv, hclock]
    rfl
  · rw [hfalls, ht]
    exact s.timer.writeDiv_tima
  · rw [hfalls, ht]
    exact s.timer.writeDiv_reload
  · rw [ht]
    rfl

/-! The rate of `TIMA` (R335, R340). -/

/-- How many multiples of the period the counter reaches in `n` t-cycles. -/
def Timer.edges (t : Timer) (n : Nat) : Nat := (t.sysclk.toNat + n) / t.period - t.sysclk.toNat / t.period

/-- The next t-cycle is one more edge when it reaches a multiple of the period. -/
theorem Timer.edges_succ (t : Timer) (n : Nat) :
    t.edges (n + 1) = t.edges n + if t.period ∣ (Timer.ticks n t).sysclk.toNat + 1 then 1 else 0 := by
  have hwrap : t.period ∣ (Timer.ticks n t).sysclk.toNat + 1 ↔ t.period ∣ t.sysclk.toNat + n + 1 := by
    have hclock : (Timer.ticks n t).sysclk.toNat = (t.sysclk.toNat + n) % 65536 := by
      rw [Timer.ticks_sysclk, BitVec.toNat_add, BitVec.toNat_ofNat, Nat.add_mod_mod]
    rw [hclock, Nat.dvd_iff_mod_eq_zero, Nat.dvd_iff_mod_eq_zero, ← Nat.mod_mod_of_dvd (_ + n + 1) t.period_dvd.2,
      ← Nat.mod_mod_of_dvd (_ % 65536 + 1) t.period_dvd.2, Nat.mod_add_mod]
  have hmono : t.sysclk.toNat / t.period ≤ (t.sysclk.toNat + n) / t.period :=
    Nat.div_le_div_right (Nat.le_add_right _ _)
  simp only [Timer.edges, hwrap, ← Nat.add_assoc, Nat.succ_div]
  omega

/-- With the timer enabled `TIMA` counts the edges, as long as it does not overflow. -/
theorem Timer.ticks_tima_of_enabled {t : Timer} (hr : t.reload = 0) (hen : bit t.tac 2 = true) {n : Nat}
    (h : t.tima.toNat + t.edges n ≤ 255) :
    (Timer.ticks n t).tima.toNat = t.tima.toNat + t.edges n ∧ (Timer.ticks n t).reload = 0 := by
  induction n with
  | zero => exact ⟨by simp [Timer.ticks, Timer.edges], hr⟩
  | succ n ih =>
    rw [Timer.edges_succ] at h ⊢
    obtain ⟨htima, hreload⟩ := ih (by omega)
    rw [Timer.ticks_succ, Timer.tick1_of_idle hreload, Timer.count_eq, Timer.ticks_tac, Timer.ticks_period]
    split at h
    · next hedge =>
      rw [if_pos ⟨hen, hedge⟩, if_pos hedge, Timer.timaIncrement_tima, Timer.timaIncrement_reload]
      dsimp only
      rw [if_neg (by bv_omega)]
      exact ⟨by bv_omega, hreload⟩
    · next hedge =>
      rw [if_neg (fun hboth => hedge hboth.2), if_neg hedge]
      exact ⟨htima, hreload⟩

/-- With the timer disabled nothing but the counter moves. -/
theorem Timer.ticks_tima_of_disabled {t : Timer} (hr : t.reload = 0) (hdis : bit t.tac 2 = false) (n : Nat) :
    (Timer.ticks n t).tima = t.tima ∧ (Timer.ticks n t).reload = 0 := by
  induction n with
  | zero => exact ⟨rfl, hr⟩
  | succ n ih =>
    rw [Timer.ticks_succ, Timer.tick1_of_idle ih.2, Timer.count_eq, Timer.ticks_tac, if_neg (by simp [hdis])]
    exact ih

/-- Settles O38: each t-cycle is one edge or none, and an edge below the overflow adds one to `TIMA`. -/
theorem timaRate : Obligations.TimaRate := by
  intro t n hr period edges
  have hedges : edges = t.edges n :=
    congrArg (fun p => (t.sysclk.toNat + n) / p - t.sysclk.toNat / p) (timerBit_period_eq t.tac).2.symm
  exact ⟨fun hen h => hedges ▸ Timer.ticks_tima_of_enabled hr hen (hedges ▸ h),
    fun hdis => Timer.ticks_tima_of_disabled hr hdis n, t.ticks_sysclk n⟩

/-! The overflow of `TIMA` (R337, R340). -/

/-- The next t-cycle overflows `TIMA`: it is 0xFF, no reload is under way, and the timer signal falls. -/
def Timer.Overflows (t : Timer) : Prop :=
  t.tima = 0xFF ∧ t.reload = 0 ∧ (t.signal && !Timer.signal { t with sysclk := t.sysclk + 1 }) = true

/-- The t-cycle of the overflow takes the counter to a multiple of the period, `TIMA` to 0 and the countdown to 4. -/
theorem Timer.tick1_of_overflow {t : Timer} (h : t.Overflows) :
    t.tick1.1 = { t with sysclk := t.sysclk + 1, tima := 0, reload := 4 } ∧ 16 ∣ t.sysclk.toNat + 1 := by
  obtain ⟨htima, hr, hfalls⟩ := h
  rw [Timer.signal_falls, Bool.and_eq_true, decide_eq_true_eq] at hfalls
  rw [Timer.tick1_of_idle hr, Timer.count_eq, if_pos hfalls, Timer.timaIncrement, if_pos htima]
  exact ⟨rfl, t.period_dvd.1.trans hfalls.2⟩

/-- The countdown runs with the counter, and while it runs no further edge comes. -/
theorem Timer.ticks_of_countdown {t : Timer} (hclock : 16 ∣ t.sysclk.toNat) (hr : t.reload = 4) {n : Nat}
    (hn : n ≤ 3) : Timer.ticks n t = { t with sysclk := t.sysclk + BitVec.ofNat 16 n, reload := 4 - n } := by
  induction n with
  | zero => simp [Timer.ticks, ← hr]
  | succ n ih =>
    have hnot : ¬ 16 ∣ (t.sysclk + BitVec.ofNat 16 n).toNat + 1 := by bv_omega
    rw [Timer.ticks_succ, ih (by omega), Timer.tick1_eq, Timer.count_of_not_dvd hnot]
    dsimp only
    rw [if_neg (by omega), BitVec.add_assoc, BitVec.ofNat_add]
    rfl

/-- `n + 1` t-cycles from the one of the overflow on (R337). -/
theorem Timer.ticks_of_overflow {t : Timer} (h : t.Overflows) {n : Nat} (hn : n ≤ 3) :
    Timer.ticks (n + 1) t = { t with sysclk := t.sysclk + 1 + BitVec.ofNat 16 n, tima := 0, reload := 4 - n } := by
  obtain ⟨htick, hdvd⟩ := Timer.tick1_of_overflow h
  rw [Timer.ticks, htick, Timer.ticks_of_countdown (by dsimp only; bv_omega) rfl hn]

/-- The fifth t-cycle reloads `TIMA`. -/
theorem Timer.ticks_five_of_overflow {t : Timer} (h : t.Overflows) : (Timer.ticks 5 t).tima = t.tma := by
  have hdvd := (Timer.tick1_of_overflow h).2
  have hnot : ¬ 16 ∣ (t.sysclk + 1 + BitVec.ofNat 16 3).toNat + 1 := by bv_omega
  rw [Timer.ticks_succ, Timer.ticks_of_overflow h (Nat.le_refl 3), Timer.tick1_eq,
    Timer.count_of_not_dvd hnot]
  rfl

/-! The request of the timer (R311, R312): bit 2 of `IF`. -/

theorem getLsbD_reqMask {b : Nat} (hb : b < 5) (j : Nat) : (reqMask b).getLsbD j = decide (j = b) := by
  rw [reqMask, BitVec.getLsbD_shiftLeft, BitVec.ofNat_eq_ofNat, BitVec.getLsbD_one, Bool.eq_iff_iff]
  simp only [Bool.and_eq_true, Bool.not_eq_true', decide_eq_true_eq, decide_eq_false_iff_not]
  omega

theorem getLsbD_reqIf (c : Bool) {b : Nat} (hb : b < 5) (j : Nat) : (reqIf c b).getLsbD j = (c && decide (j = b)) := by
  cases c with
  | false => exact BitVec.getLsbD_zero
  | true => exact getLsbD_reqMask hb j

theorem Ppu.lineEnd_request (p : Ppu) : p.lineEnd.2 = 0 ∨ p.lineEnd.2 = reqMask 0 := by
  unfold Ppu.lineEnd
  dsimp only
  split_ifs
  · exact .inl rfl
  · exact .inr rfl
  · exact .inl rfl
  · exact .inl rfl

theorem Ppu.dotAction_request (p : Ppu) (m : List Host.Cell) :
    (p.dotAction m).2 = 0 ∨ (p.dotAction m).2 = reqMask 0 := by
  unfold Ppu.dotAction
  split_ifs
  · exact .inl rfl
  · exact .inl rfl
  · exact p.lineEnd_request
  · exact .inl rfl

/-- The PPU requests its own two interrupts only. -/
theorem Ppu.tick1_request (p : Ppu) (m : List Host.Cell) : (p.tick1 m).2.getLsbD 2 = false := by
  unfold Ppu.tick1
  split
  · have hdot : (Ppu.dotAction { p with dot := p.dot + 1 } m).2.getLsbD 2 = false := by
      rcases Ppu.dotAction_request { p with dot := p.dot + 1 } m with h | h <;> rw [h] <;> rfl
    rw [BitVec.getLsbD_or, hdot, Ppu.statUpdate, getLsbD_reqIf _ (by decide)]
    exact Bool.and_false _
  · exact BitVec.getLsbD_zero

/-- The timer requests its interrupt in the t-cycle of the reload, and no other device requests it. -/
theorem State.tick1_timerRequest (s : State) :
    s.tick1.irq.iflag.getLsbD 2 = (s.irq.iflag.getLsbD 2 || decide (s.timer.reload = 1)) := by
  show (s.irq.iflag ||| (s.timer.tick1.2 ||| (s.ppu.tick1 s.mem).2)).getLsbD 2 = _
  rw [BitVec.getLsbD_or, BitVec.getLsbD_or, Ppu.tick1_request, Timer.tick1, s.timer.countdown_eq.2,
    getLsbD_reqIf _ (by decide)]
  simp

/-- Until the fifth t-cycle the overflow requests nothing. -/
theorem State.tick_timerRequest_of_overflow {s : State} (h : s.timer.Overflows) {n : Nat} (hn : n ≤ 4) :
    (State.tick n s).irq.iflag.getLsbD 2 = s.irq.iflag.getLsbD 2 := by
  induction n with
  | zero => rfl
  | succ n ih =>
    have hcount : (State.tick n s).timer.reload ≠ 1 := by
      rw [State.tick_timer]
      cases n with
      | zero =>
        obtain ⟨-, hr, -⟩ := h
        show s.timer.reload ≠ 1
        omega
      | succ n =>
        rw [Timer.ticks_of_overflow h (by omega)]
        dsimp only
        omega
    rw [State.tick_succ, State.tick1_timerRequest, ih (by omega), decide_eq_false hcount, Bool.or_false]

/-- Settles O39: the overflow starts the countdown of 4, which requests and reloads as it ends. -/
theorem timaOverflow : Obligations.TimaOverflow := by
  refine ⟨fun s htima hr hs hf => ?_, fun s v => ?_⟩
  · have h : s.timer.Overflows := ⟨htima, hr, by rw [hs, hf]; rfl⟩
    have hticks {n : Nat} (hn : n ≤ 3) := Timer.ticks_of_overflow h hn
    refine ⟨fun n h1 h4 => ?_, ?_, ?_⟩
    · obtain ⟨n, rfl⟩ := Nat.exists_eq_add_of_le' h1
      rw [State.tick_timerRequest_of_overflow h h4, State.tick_timer, hticks (by omega)]
      exact ⟨rfl, by dsimp only; omega, rfl⟩
    · rw [State.tick_timer, Timer.ticks_five_of_overflow h]
    · rw [State.tick_succ, State.tick1_timerRequest, State.tick_timer, hticks (Nat.le_refl 3)]
      exact Bool.or_true _
  · rw [State.write8_of_ioReg (a := 0xFF05) (r := .tima) rfl rfl]
    rfl

end Sys2Proof.Machine
end

section
/-! PROOFS. The system step and the exceptions (60_exceptions.md R300 to R323): the step of a running and of a waiting
CPU, the rest of the step, and the dispatch of an interrupt. -/

set_option Elab.async false

namespace Sys2Proof.Machine

/-! The instruction of a step (R301, R322). -/

/-- Settles O4: with `halt_bug` 0 the fetch moves `PC` past the instruction. -/
theorem stepRunsDecodedInstruction : Obligations.StepRunsDecodedInstruction := by
  intro s i n hf hw hb hdec _
  have hbytes : decode s.codeBytes = .ok (i, n) := by rwa [State.codeBytes, hb]
  rw [step_of_decode hf hw hbytes, State.fetched_of_plain hb]

/-- Settles O6: with `halt_bug` 1 the fetch moves `PC` one byte less and consumes the bit. -/
theorem haltBugFetch : Obligations.HaltBugFetch := by
  intro s i n hf hw hb hdec _
  have hbytes : decode s.codeBytes = .ok (i, n) := by rwa [State.codeBytes, hb]
  rw [step_of_decode hf hw hbytes, State.fetched, hb]
  rfl

theorem onNext_answers {α β : Type} {f : α → β} {r : Host.Outcome α Fault Refusal} (h : ∃ a, r = .next a) :
    ∃ b, onNext f r = .next b := by
  obtain ⟨a, rfl⟩ := h
  exact ⟨f a, rfl⟩

theorem State.execute_answers (s : State) : ∃ t, s.execute = .next t := by
  unfold State.execute
  split
  · exact ⟨_, rfl⟩
  · obtain ⟨t, ht, -⟩ := exec_built s.fetchInstr.1 s.fetchInstr.2
    exact ⟨t, ht⟩

theorem step_answers (s : State) : ∃ t, step s = .next t := by
  unfold step
  split
  · exact ⟨s, rfl⟩
  · exact onNext_answers s.wake.execute_answers

/-- Settles O7: every instruction builds a next state by writes, and the rest of the step maps a next state to one. -/
theorem stepAlwaysAnswers : Obligations.StepAlwaysAnswers :=
  ⟨step_answers, fun i s => (exec_built i s).imp fun _ h => h.1⟩

/-! The rest of the step (R300, R302). -/

@[simp] theorem State.tick_joypad (n : Nat) (s : State) : (State.tick n s).joypad = s.joypad :=
  State.tick_field State.joypad State.tick1_joypad n s

@[simp] theorem State.tick_serial (n : Nat) (s : State) : (State.tick n s).serial = s.serial :=
  State.tick_field State.serial State.tick1_serial n s

@[simp] theorem State.tick_ie (n : Nat) (s : State) : (State.tick n s).irq.ie = s.irq.ie :=
  State.tick_field (fun u => u.irq.ie) State.tick1_ie n s

/-- The commit of `EI`, on the state whose cost has been taken. -/
theorem State.commitEi_cost_zero (arm : Bool) (s : State) : (s.cost 0).commitEi arm =
    if arm = true ∧ s.cpu.eiPending = true
    then { s with cpu := { s.cpu with ime := true, eiPending := false }, cycles := 0 } else { s with cycles := 0 } := by
  unfold State.commitEi
  simp only [Bool.and_eq_true, State.cost_cpu]
  rfl

/-- Settles O5: the commit, the tick by the cost, and the two outcomes of the interrupt check. -/
theorem restOfTheStep : Obligations.RestOfTheStep := by
  constructor
  · intro arm s
    exact ⟨(s.cost 0).commitEi arm, _, s.commitEi_cost_zero arm, rfl, State.interruptCheck_of_pending,
      State.interruptCheck_of_not_dispatches⟩
  · intro n s
    exact ⟨s.tick_cpu n, s.tick_cart n, s.tick_mem n, s.tick_joypad n, s.tick_serial n, s.tick_ie n⟩

/-! Waiting and waking (R320, R321). -/

/-- The state with both wait bits 0. -/
def State.awake (s : State) : State := { s with cpu := { s.cpu with halted := false, stopped := false } }

theorem State.wake_of_pending {s : State} (hw : s.cpu.waiting = true) (hp : s.irq.pending = true) :
    s.wake = s.awake := if_pos (by simp [hw, hp])

theorem State.wake_of_not_pending {s : State} (hp : s.irq.pending = false) : s.wake = s := if_neg (by simp [hp])

theorem step_of_not_frozen {s : State} (hf : s.cpu.frozen = false) :
    step s = onNext (State.finish s.cpu.eiPending) s.wake.execute := if_neg (by simp [hf])

/-- The step of a CPU that waits on: one m-cycle and the rest of the step. -/
theorem step_of_waiting {s : State} (hf : s.cpu.frozen = false) (hw : s.cpu.waiting = true)
    (hp : s.irq.pending = false) : step s = .next ((s.cost 1).finish s.cpu.eiPending) := by
  rw [step_of_not_frozen hf, State.wake_of_not_pending hp, State.execute, if_pos hw]
  rfl

theorem Irq.pending_of_ie_zero {q : Irq} (h : q.ie = 0) : q.pending = false := by
  simp [Irq.pending, Irq.active, h]

/-- The commit of `EI` leaves the wait bits, `PC` and the interrupt registers. -/
theorem State.commitEi_kept (arm : Bool) (s : State) : (s.commitEi arm).cpu.waiting = s.cpu.waiting ∧
    (s.commitEi arm).cpu.pc = s.cpu.pc ∧ (s.commitEi arm).irq = s.irq := by
  unfold State.commitEi
  split <;> exact ⟨rfl, rfl, rfl⟩

/-- With no bit of `IE` set the rest of the step dispatches nothing. -/
theorem State.finish_of_ie_zero {s : State} (h : s.irq.ie = 0) (arm : Bool) :
    s.finish arm = State.tick (4 * s.cycles) ((s.cost 0).commitEi arm) := by
  refine State.interruptCheck_of_not_dispatches (.inr (.inr (Irq.pending_of_ie_zero ?_)))
  obtain ⟨-, -, hirq⟩ := (s.cost 0).commitEi_kept arm
  rw [State.tick_ie, hirq]
  exact h

/-- Settles O10: the wait is one m-cycle of the devices, the wake is the one of step 2, and it needs a bit of `IE`. -/
theorem waiting : Obligations.Waiting := by
  refine ⟨?waits, ?wakes, ?on⟩
  case waits =>
    intro s hf hw hp hei hno
    have hfinish : (s.cost 1).finish s.cpu.eiPending = (State.tick 4 s).cost 0 := by
      unfold State.finish
      rw [State.commitEi_of_not_armed (.inl hei), State.cost_cost_twice, State.cost_cycles, State.tick_cost]
      exact State.interruptCheck_of_not_dispatches (.inr (hno.imp_left (by simp)))
    refine ⟨_, (step_of_waiting hf hw hp).trans (congrArg _ hfinish), s.tick_cpu 4, s.tick_mem 4, s.tick_cart 4,
      ?_, rfl⟩
    rw [State.cost_timer, State.tick_timer, Timer.ticks_sysclk]
    rfl
  case wakes =>
    intro s hf hw hp
    show step s = step s.awake
    rw [step_of_not_frozen hf, step_of_not_frozen (s := s.awake) hf, State.wake_of_pending hw hp,
      State.wake_of_running (s := s.awake) rfl]
    rfl
  case on =>
    intro s hw hie
    have hp := Irq.pending_of_ie_zero hie
    cases hf : s.cpu.frozen with
    | true => exact ⟨s, if_pos hf, hw, hie, rfl⟩
    | false =>
      obtain ⟨hwait, hpc, hirq⟩ := ((s.cost 1).cost 0).commitEi_kept s.cpu.eiPending
      refine ⟨_, step_of_waiting hf hw hp, ?_⟩
      rw [State.finish_of_ie_zero (s := s.cost 1) hie, State.tick_cpu, State.tick_ie, hwait, hpc, hirq]
      exact ⟨hw, hie, rfl⟩

/-! The dispatch (R312 to R315). -/

/-- The source that a dispatch serves is the least one that is pending (R314). -/
theorem Irq.first_spec {q : Irq} (h : q.pending = true) :
    q.first < 5 ∧ q.active.getLsbD q.first = true ∧ ∀ j, j < q.first → q.active.getLsbD j = false := by
  have key : ∀ x : BitVec 5, x ≠ 0 → Irq.first ⟨x, x⟩ < 5 ∧ x.getLsbD (Irq.first ⟨x, x⟩) = true ∧
      ∀ j, j < Irq.first ⟨x, x⟩ → x.getLsbD j = false := by decide
  have hfirst : q.first = Irq.first ⟨q.active, q.active⟩ := by
    have hactive : Irq.active ⟨q.active, q.active⟩ = q.active := BitVec.and_self
    unfold Irq.first
    rw [hactive]
  exact hfirst ▸ key q.active (bne_iff_ne.mp h)

theorem Irq.getLsbD_clear (q : Irq) {b : Nat} (hb : b < 5) (j : Nat) :
    (q.clear b).iflag.getLsbD j = (q.iflag.getLsbD j && decide (j ≠ b)) := by
  show (q.iflag &&& ~~~reqMask b).getLsbD j = _
  rw [BitVec.getLsbD_and, BitVec.getLsbD_not, getLsbD_reqMask hb]
  by_cases hj : j < 5
  · simp [hj]
  · rw [BitVec.getLsbD_of_ge _ _ (Nat.le_of_not_lt hj), Bool.false_and, Bool.false_and]

/-- A push into plain RAM stores two bytes and moves `SP`. -/
theorem State.push16_of_plainRam {s : State} (hhigh : plainRam (s.cpu.sp - 1) = true)
    (hlow : plainRam (s.cpu.sp - 2) = true) (v : Word) :
    s.push16 v = ((s.poke (cellOf (s.cpu.sp - 1)) (hi v)).poke (cellOf (s.cpu.sp - 2)) (lo v)).setCpu
      { s.cpu with sp := s.cpu.sp - 2 } := by
  have haccess (t : State) : t.Accessible (s.cpu.sp - 1) ∧ t.Accessible (s.cpu.sp - 2) := ⟨.inl hhigh, .inl hlow⟩
  rw [State.push16_eq, (haccess _).1.write8_eq, (haccess _).2.write8_eq]
  rfl

/-- The two bytes of a push into plain RAM, read back one by one. -/
theorem State.read8_push16 {s : State} (hhigh : plainRam (s.cpu.sp - 1) = true)
    (hlow : plainRam (s.cpu.sp - 2) = true) (v : Word) :
    (s.push16 v).read8 (s.cpu.sp - 1) = hi v ∧ (s.push16 v).read8 (s.cpu.sp - 2) = lo v := by
  have hup : s.cpu.sp - 2 + 1 = s.cpu.sp - 1 := by bv_omega
  have htop := s.top16_push16 v hhigh hlow
  rw [State.top16, State.push16_cpu, hup] at htop
  exact ⟨(hi_hiLo _ _).symm.trans (congrArg hi htop), (lo_hiLo _ _).symm.trans (congrArg lo htop)⟩

/-- The state in which a dispatch pushes: the source is cleared and the hidden bits are written (R315). -/
def State.entered (s : State) : State := (s.setIrq (s.irq.clear s.irq.first)).setCpu s.cpu.enter

theorem State.service_eq (s : State) :
    s.service = (s.entered.push16 s.cpu.returnAddress).jump (vectorOf s.irq.first) := rfl

/-- A dispatch with its stack in plain RAM, beside the CPU registers: one source cleared and two bytes stored. -/
theorem State.service_of_plainRam {s : State} (hhigh : plainRam (s.cpu.sp - 1) = true)
    (hlow : plainRam (s.cpu.sp - 2) = true) : s.service.irq = s.irq.clear s.irq.first ∧
    s.service.mem = Memory.write (Memory.write s.mem (cellOf (s.cpu.sp - 1)) (hi s.cpu.returnAddress))
      (cellOf (s.cpu.sp - 2)) (lo s.cpu.returnAddress) := by
  have hpush := State.push16_of_plainRam (s := s.entered) hhigh hlow s.cpu.returnAddress
  rw [s.service_eq, State.jump, State.setCpu_irq, State.setCpu_mem, hpush]
  exact ⟨rfl, rfl⟩

/-- The stacked return address, read back byte by byte. -/
theorem State.read8_service {s : State} (hhigh : plainRam (s.cpu.sp - 1) = true)
    (hlow : plainRam (s.cpu.sp - 2) = true) : s.service.read8 (s.cpu.sp - 1) = hi s.cpu.returnAddress ∧
    s.service.read8 (s.cpu.sp - 2) = lo s.cpu.returnAddress := by
  rw [s.service_eq, State.jump, State.read8_setCpu, State.read8_setCpu]
  exact State.read8_push16 (s := s.entered) hhigh hlow _

/-- Settles O11: the dispatch clears the least pending source and pushes its return address into plain RAM. -/
theorem interruptDispatch : Obligations.InterruptDispatch := by
  intro s hp hhigh hlow
  obtain ⟨hlt, hset, hleast⟩ := Irq.first_spec hp
  obtain ⟨hirq, hmem⟩ := State.service_of_plainRam hhigh hlow
  obtain ⟨hreadHigh, hreadLow⟩ := State.read8_service hhigh hlow
  refine ⟨s.irq.first, s.cpu.returnAddress, hlt, hset, hleast, fun h => ?_, fun hb hat => ?_, s.service_cpu,
    (congrArg Irq.ie hirq :), fun j => ?_, hreadHigh, hreadLow, fun a h1 h2 => ?_⟩
  · refine if_neg ?_
    rcases h with h | h <;> simp [h]
  · exact if_pos (by simp [hb, hat])
  · rw [hirq, Irq.getLsbD_clear _ hlt]
  · rw [hmem, Memory.read_write_other _ _ h2, Memory.read_write_other _ _ h1]

end Sys2Proof.Machine
end

section
/-! PROOFS. The joypad (60_exceptions.md R341 to R344) and the buttons of a run (R304, R343). -/

set_option Elab.async false

namespace Sys2Proof.Machine

/-! The nibble of the selected rows (R342) and its interrupt (R344). -/

theorem Joypad.getLsbD_nibble (p : Joypad) {j : Nat} (hj : j < 4) : p.nibble.getLsbD j =
    !((!p.select.getLsbD 0 && p.buttons.getLsbD (4 + j)) || (!p.select.getLsbD 1 && p.buttons.getLsbD j)) := by
  have hrow (hidden : Bool) (start : Nat) :
      (if hidden then (0 : BitVec 4) else p.buttons.extractLsb' start 4).getLsbD j =
        (!hidden && p.buttons.getLsbD (start + j)) := by
    cases hidden with
    | true => exact BitVec.getLsbD_zero
    | false => simp [hj]
  rw [Joypad.nibble, Joypad.held, BitVec.getLsbD_not, BitVec.getLsbD_or, hrow, hrow, Nat.zero_add, decide_eq_true hj]
  rfl

/-- The low half of `P1` (R341). -/
theorem Joypad.getLsbD_readP1 (p : Joypad) {j : Nat} (hj : j < 4) : p.readP1.getLsbD j = p.nibble.getLsbD j := by
  rw [Joypad.readP1, BitVec.getLsbD_append, if_pos hj]

theorem State.getLsbD_read8_p1 (s : State) {j : Nat} (hj : j < 4) :
    (s.read8 0xFF00).getLsbD j = s.joypad.nibble.getLsbD j := by
  rw [State.read8_of_ioReg (a := 0xFF00) (r := .p1) rfl rfl]
  exact s.joypad.getLsbD_readP1 hj

/-- A bit of the output has fallen when it was 1 in the nibble remembered and is 0 now. -/
theorem fallen_iff (before after : BitVec 4) : (before &&& ~~~after != 0) = true ↔
    ∃ j, j < 4 ∧ before.getLsbD j = true ∧ after.getLsbD j = false := by
  revert before after
  decide

/-- `JoyUpdate()` on the machine (R344): it remembers the nibble of the joypad `p` and requests its own interrupt when
an output bit falls. -/
theorem State.joyUpdate (s : State) {p : Joypad} (hp : p.prev = s.joypad.prev) :
    let t := (s.setJoypad p.update.1).request p.update.2
    (∀ j, j < 4 → t.joypad.prev.getLsbD j = (t.read8 0xFF00).getLsbD j) ∧
    (∀ j, j ≠ 4 → t.irq.iflag.getLsbD j = s.irq.iflag.getLsbD j) ∧
    (t.irq.iflag.getLsbD 4 = true ↔ s.irq.iflag.getLsbD 4 = true ∨
      ∃ j, j < 4 ∧ s.joypad.prev.getLsbD j = true ∧ t.joypad.prev.getLsbD j = false) := by
  intro t
  have hflag (j : Nat) : t.irq.iflag.getLsbD j =
      (s.irq.iflag.getLsbD j || (p.prev &&& ~~~p.nibble != 0 && decide (j = 4))) := by
    show (s.irq.iflag ||| reqIf (p.prev &&& ~~~p.nibble != 0) 4).getLsbD j = _
    rw [BitVec.getLsbD_or, getLsbD_reqIf _ (by decide)]
  refine ⟨fun j hj => (t.getLsbD_read8_p1 hj).symm, fun j hj => ?_, ?_⟩
  · rw [hflag, decide_eq_false hj, Bool.and_false, Bool.or_false]
  · rw [hflag, Bool.or_eq_true, decide_eq_true rfl, Bool.and_true, fallen_iff, hp]
    rfl

theorem State.write8_p1 (s : State) (v : Byte) : s.write8 0xFF00 v =
    (s.setJoypad (s.joypad.writeP1 v).1).request (s.joypad.writeP1 v).2 :=
  State.write8_of_ioReg (a := 0xFF00) (r := .p1) rfl rfl s v

/-! The buttons of a step and of a run. -/

/-- No bus write changes the buttons. -/
theorem State.write8_buttons (s : State) (a : Word) (v : Byte) :
    (s.write8 a v).joypad.buttons = s.joypad.buttons := by
  by_cases ha : a = 0xFF00
  · rw [ha, State.write8_p1]
    rfl
  · rw [(s.write8_effect a v).joypad_eq ha]

theorem step_buttons {s t : State} (h : step s = .next t) : t.joypad.buttons = s.joypad.buttons := by
  refine step_keeps (P := fun u => u.joypad.buttons = s.joypad.buttons) (fun _ _ h => h) (fun _ _ h => h)
    (fun _ _ h => h) (fun u a v hu => (u.write8_buttons a v).trans hu) (fun u hu => ?_) rfl h
  rwa [State.tick_joypad]

theorem State.runFrame_answers (n : Nat) (s : State) : ∃ f, s.runFrame n = .next f := by
  induction n generalizing s with
  | zero => exact ⟨_, rfl⟩
  | succ n ih =>
    obtain ⟨t, ht⟩ := step_answers s
    rw [State.runFrame, ht]
    dsimp only
    split
    · exact ⟨_, rfl⟩
    · exact onNext_answers (ih t)

theorem State.stepFrame_answers (bound : Nat) (s : State) : ∃ f, s.stepFrame bound = .next f := by
  unfold State.stepFrame
  split
  · exact ⟨_, rfl⟩
  · exact State.runFrame_answers bound _

theorem State.play_answers (bound : Nat) (masks : List Byte) (s : State) : ∃ fs, s.play bound masks = .next fs := by
  induction masks generalizing s with
  | nil => exact ⟨_, rfl⟩
  | cons mask masks ih =>
    obtain ⟨f, hf⟩ := (s.setButtons mask).stepFrame_answers bound
    rw [State.play, hf]
    exact onNext_answers (ih f.state)

/-- A frame ends with the buttons that it begins with. -/
theorem State.stepFrame_buttons {bound : Nat} {s : State} {f : Frame} (h : s.stepFrame bound = .next f) :
    f.state.joypad.buttons = s.joypad.buttons :=
  State.stepFrame_keeps (P := fun u => u.joypad.buttons = s.joypad.buttons)
    (fun _ _ hu hv => (step_buttons hv).trans hu) (fun _ hu => hu) rfl h

/-- Settles O40: a write of `P1` and a press are one `JoyUpdate()`, and only `set_buttons` writes the buttons. -/
theorem joypadMatrix : Obligations.JoypadMatrix := by
  refine ⟨fun s j hj => ?_, fun s v t ht => ?_, fun s v => ?_, fun s t => step_buttons, fun _ _ => rfl,
    fun bound mask masks s => ?_⟩
  · rw [s.getLsbD_read8_p1 hj, Joypad.getLsbD_nibble _ hj]
  · simp only [List.mem_cons, List.not_mem_nil, or_false] at ht
    rcases ht with rfl | rfl
    · rw [State.write8_p1]
      exact s.joyUpdate rfl
    · exact s.joyUpdate rfl
  · rw [State.write8_p1]
    exact ⟨rfl, rfl⟩
  · obtain ⟨fs, hfs⟩ := s.play_answers bound (mask :: masks)
    obtain ⟨f, gs, hf, hg, rfl⟩ := State.play_cons hfs
    exact ⟨f, gs, hfs, hf, hg, State.stepFrame_buttons hf⟩

end Sys2Proof.Machine
end

section
/-! PROOFS. The PPU (61_ppu.md): the position of the beam in the frame, the STAT line, the scan of a line's sprites, the
composition of a line, and the schedule that every step keeps. -/

set_option Elab.async false

namespace Sys2Proof.Machine

/-! The STAT line (R413). -/

/-- The remembered bit is no source of the STAT line. -/
theorem Ppu.statUpdate_statLine (p : Ppu) : p.statUpdate.1.statLine = p.statLine := rfl

/-- `StatUpdate()` requests on a rise against the remembered bit, and remembers the line. -/
theorem Ppu.statUpdate_blocks (p : Ppu) : p.statUpdate.2.getLsbD 1 = (p.statUpdate.1.statLine && !p.statPrev) ∧
    p.statUpdate.1.statPrev = p.statUpdate.1.statLine := by
  refine ⟨?_, rfl⟩
  rw [Ppu.statUpdate_statLine, Ppu.statUpdate, getLsbD_reqIf _ (by decide), decide_eq_true rfl, Bool.and_true]

theorem Ppu.statLine_of_lcdOff {p : Ppu} (h : p.lcdOn = false) : p.statLine = false := by
  rw [Ppu.statLine, h, Bool.false_and]

theorem Ppu.tick1_of_lcdOff {p : Ppu} (h : p.lcdOn = false) (m : List Host.Cell) : p.tick1 m = (p, 0) := by
  rw [Ppu.tick1, h]
  rfl

/-- A write of `LCDC` is a `StatUpdate()` of the PPU with the new `LCDC`, switched off or on as bit 7 says (R401). -/
theorem Ppu.writeLcdc_cases (p : Ppu) (v : Byte) :
    (bit v 7 = false ∧ p.lcdOn = true ∧ p.writeLcdc v = (Ppu.lcdOff { p with lcdc := v }).statUpdate) ∨
    (bit v 7 = true ∧ p.lcdOn = false ∧ p.writeLcdc v = (Ppu.startLcd { p with lcdc := v }).statUpdate) ∨
    (bit v 7 = p.lcdOn ∧ p.writeLcdc v = Ppu.statUpdate { p with lcdc := v }) := by
  unfold Ppu.writeLcdc
  cases hon : p.lcdOn <;> cases hv : bit v 7
  · exact .inr (.inr ⟨rfl, rfl⟩)
  · exact .inr (.inl ⟨rfl, rfl, rfl⟩)
  · exact .inl ⟨rfl, rfl, rfl⟩
  · exact .inr (.inr ⟨rfl, rfl⟩)

/-! One t-cycle of the PPU (R410 to R412). -/

/-- The end of a line leaves the LCD's settings, the remembered STAT bit and the scanned sprites. -/
theorem Ppu.lineEnd_kept (p : Ppu) : p.lineEnd.1.lcdc = p.lcdc ∧ p.lineEnd.1.statPrev = p.statPrev ∧
    p.lineEnd.1.lineSprites = p.lineSprites := by
  unfold Ppu.lineEnd
  dsimp only
  split_ifs <;> exact ⟨rfl, rfl, rfl⟩

theorem Ppu.dotAction_kept (p : Ppu) (m : List Host.Cell) :
    (p.dotAction m).1.lcdc = p.lcdc ∧ (p.dotAction m).1.statPrev = p.statPrev := by
  unfold Ppu.dotAction
  split_ifs
  · exact ⟨rfl, rfl⟩
  · exact ⟨rfl, rfl⟩
  · exact ⟨p.lineEnd_kept.1, p.lineEnd_kept.2.1⟩
  · exact ⟨rfl, rfl⟩

/-- The PPU after a t-cycle with the LCD on, but for the remembered STAT bit: what the dot reached does. -/
def Ppu.advance (p : Ppu) (m : List Host.Cell) : Ppu × BitVec 5 := Ppu.dotAction { p with dot := p.dot + 1 } m

theorem Ppu.tick1_of_lcdOn {p : Ppu} (h : p.lcdOn = true) (m : List Host.Cell) :
    p.tick1 m = ((p.advance m).1.statUpdate.1, (p.advance m).2 ||| (p.advance m).1.statUpdate.2) := if_pos h

theorem Ppu.advance_lcdOn (p : Ppu) (m : List Host.Cell) : (p.advance m).1.lcdOn = p.lcdOn :=
  congrArg (bit · 7) (Ppu.dotAction_kept { p with dot := p.dot + 1 } m).1

theorem Ppu.advance_statPrev (p : Ppu) (m : List Host.Cell) : (p.advance m).1.statPrev = p.statPrev :=
  (Ppu.dotAction_kept { p with dot := p.dot + 1 } m).2

/-- The line and the dot that a line's end leads to. -/
theorem Ppu.lineEnd_position {p : Ppu} (h : p.ly.toNat ≤ 153) :
    p.lineEnd.1.ly.toNat = (p.ly.toNat + 1) % 154 ∧ p.lineEnd.1.dot = 0 := by
  have hnext : (p.ly + 1).toNat = p.ly.toNat + 1 := by bv_omega
  unfold Ppu.lineEnd
  dsimp only
  split_ifs with h1 h2 h3
  · exact ⟨by show (0 : Byte).toNat = _; bv_omega, rfl⟩
  all_goals exact ⟨by dsimp only; bv_omega, rfl⟩

/-- The line and the dot that the dot's action leads to: the next line from dot 456, else the same. -/
theorem Ppu.dotAction_position {p : Ppu} (h : p.ly.toNat ≤ 153) (m : List Host.Cell) :
    (p.dot = 456 ∧ (p.dotAction m).1.ly.toNat = (p.ly.toNat + 1) % 154 ∧ (p.dotAction m).1.dot = 0) ∨
    (p.dot ≠ 456 ∧ (p.dotAction m).1.ly = p.ly ∧ (p.dotAction m).1.dot = p.dot) := by
  unfold Ppu.dotAction
  split_ifs with h1 h2 h3
  · exact .inr ⟨by omega, rfl, rfl⟩
  · exact .inr ⟨by omega, rfl, rfl⟩
  · exact .inl ⟨h3, p.lineEnd_position h⟩
  · exact .inr ⟨h3, rfl, rfl⟩

theorem Ppu.advance_position {p : Ppu} (h : p.ly.toNat ≤ 153) (m : List Host.Cell) :
    (p.dot = 455 ∧ (p.advance m).1.ly.toNat = (p.ly.toNat + 1) % 154 ∧ (p.advance m).1.dot = 0) ∨
    (p.dot ≠ 455 ∧ (p.advance m).1.ly = p.ly ∧ (p.advance m).1.dot = p.dot + 1) := by
  rcases Ppu.dotAction_position (p := { p with dot := p.dot + 1 }) h m with ⟨hd, hnext⟩ | ⟨hd, hnext⟩
  · exact .inl ⟨Nat.succ.inj hd, hnext⟩
  · exact .inr ⟨fun h => hd (congrArg (· + 1) h), hnext⟩

/-! The frame (R410, R412). -/

/-- The LCD is on and the line and the dot are ones of the frame. -/
def Ppu.InFrame (p : Ppu) : Prop := p.lcdOn = true ∧ p.ly.toNat ≤ 153 ∧ p.dot < 456

/-- The number of the t-cycle of the frame at which the PPU stands. -/
def Ppu.position (p : Ppu) : Nat := 456 * p.ly.toNat + p.dot

theorem Ppu.InFrame.tick1 {p : Ppu} (h : p.InFrame) (m : List Host.Cell) :
    (p.tick1 m).1.InFrame ∧ (p.tick1 m).1.position = (p.position + 1) % 70224 := by
  obtain ⟨hon, hly, hdot⟩ := h
  have hon' : (p.advance m).1.lcdOn = true := (p.advance_lcdOn m).trans hon
  rw [Ppu.tick1_of_lcdOn hon]
  show (_ ∧ (p.advance m).1.ly.toNat ≤ 153 ∧ (p.advance m).1.dot < 456) ∧
    456 * (p.advance m).1.ly.toNat + (p.advance m).1.dot = (456 * p.ly.toNat + p.dot + 1) % 70224
  rcases Ppu.advance_position hly m with ⟨hd, hl, h0⟩ | ⟨hd, hl, h0⟩ <;> rw [hl, h0]
  · exact ⟨⟨hon', by omega, by omega⟩, by omega⟩
  · exact ⟨⟨hon', hly, by omega⟩, by omega⟩

theorem Ppu.InFrame.ticks {p : Ppu} (h : p.InFrame) (m : List Host.Cell) (n : Nat) :
    (Ppu.ticks m n p).position = (p.position + n) % 70224 := by
  induction n generalizing p with
  | zero =>
    obtain ⟨-, hly, hdot⟩ := h
    show 456 * p.ly.toNat + p.dot = (456 * p.ly.toNat + p.dot + 0) % 70224
    omega
  | succ n ih =>
    obtain ⟨hnext, hpos⟩ := h.tick1 m
    rw [Ppu.ticks, ih hnext, hpos]
    omega

theorem reqIf_of_not {c : Prop} [Decidable c] (h : ¬c) (b : Nat) : 0 = reqIf (decide c) b := by
  rw [decide_eq_false h]
  rfl

theorem reqIf_of {c : Prop} [Decidable c] (h : c) (b : Nat) : reqMask b = reqIf (decide c) b := by
  rw [decide_eq_true h]
  rfl

/-- The end of line 143 requests VBlank, and no other line's end requests anything (R412). -/
theorem Ppu.lineEnd_mask (p : Ppu) : p.lineEnd.2 = reqIf (decide (p.ly = 143)) 0 := by
  unfold Ppu.lineEnd
  dsimp only
  split_ifs with h1 h2 h3
  · exact reqIf_of_not (by bv_omega) 0
  · exact reqIf_of (by bv_omega) 0
  · exact reqIf_of_not (by bv_omega) 0
  · exact reqIf_of_not (by bv_omega) 0

theorem Ppu.dotAction_mask (p : Ppu) (m : List Host.Cell) :
    (p.dotAction m).2 = reqIf (decide (p.ly = 143 ∧ p.dot = 456)) 0 := by
  unfold Ppu.dotAction
  split_ifs with h1 h2 h3
  · exact reqIf_of_not (by omega) 0
  · exact reqIf_of_not (by omega) 0
  · simp only [p.lineEnd_mask, h3, and_true]
  · exact reqIf_of_not (fun h => h3 h.2) 0

theorem Ppu.advance_mask (p : Ppu) (m : List Host.Cell) :
    (p.advance m).2 = reqIf (decide (p.ly = 143 ∧ p.dot = 455)) 0 := by
  simp only [Ppu.advance, Ppu.dotAction_mask, Nat.reduceEqDiff]

/-- The VBlank interrupt is requested at the entry to line 144 (R412), and the STAT line does not request it. -/
theorem Ppu.tick1_vblank {p : Ppu} (h : p.lcdOn = true) (m : List Host.Cell) :
    (p.tick1 m).2.getLsbD 0 = true ↔ p.ly = 143 ∧ p.dot = 455 := by
  rw [Ppu.tick1_of_lcdOn h, BitVec.getLsbD_or, Ppu.statUpdate, Ppu.advance_mask, getLsbD_reqIf _ (by decide),
    getLsbD_reqIf _ (by decide)]
  simp

/-- The requests of `n` t-cycles are the entries to line 144, position 65664 of the frame, that they pass. -/
theorem Ppu.InFrame.vblanks {p : Ppu} (h : p.InFrame) (m : List Host.Cell) (n : Nat) :
    Ppu.vblanks m n p + (p.position + 4560) / 70224 = (p.position + n + 4560) / 70224 := by
  induction n generalizing p with
  | zero => exact Nat.zero_add _
  | succ n ih =>
    obtain ⟨hnext, hpos⟩ := h.tick1 m
    have hentry : p.ly = 143 ∧ p.dot = 455 ↔ p.position = 65663 := by
      obtain ⟨-, -, hdot⟩ := h
      unfold Ppu.position
      bv_omega
    have hbound : p.position < 70224 := by
      obtain ⟨-, hly, hdot⟩ := h
      unfold Ppu.position
      omega
    have hrest := ih hnext
    rw [Ppu.vblanks]
    simp only [Ppu.tick1_vblank h.1, hentry]
    split <;> omega

/-- Settles O41: each t-cycle moves the position by one, and the position decides the request. -/
theorem framePeriod : Obligations.FramePeriod := by
  intro p m hon hly hdot
  have h : p.InFrame := ⟨hon, hly, hdot⟩
  refine ⟨fun n => h.ticks m n, ?_, Ppu.tick1_vblank hon m⟩
  have := h.vblanks m 70224
  omega

/-- Settles O42: every operation that moves the STAT line ends in `StatUpdate()`. -/
theorem statLineBlocks : Obligations.StatLineBlocks := by
  refine ⟨fun p => ?_, fun p m v r hr => ?_, fun p m hoff => ⟨Ppu.statLine_of_lcdOff hoff, Ppu.tick1_of_lcdOff hoff m⟩⟩
  · rfl
  · simp only [List.cons_append, List.nil_append, List.mem_cons] at hr
    rcases hr with rfl | rfl | rfl | hr
    · rcases p.writeLcdc_cases v with ⟨-, -, e⟩ | ⟨-, -, e⟩ | ⟨-, e⟩ <;> rw [e] <;> exact Ppu.statUpdate_blocks _
    · exact Ppu.statUpdate_blocks _
    · exact Ppu.statUpdate_blocks _
    · split at hr
      · next hon =>
        rw [List.mem_singleton] at hr
        obtain ⟨hrise, hprev⟩ := Ppu.statUpdate_blocks (p.advance m).1
        have hdot : (p.advance m).2.getLsbD 1 = false := by
          rw [Ppu.advance_mask, getLsbD_reqIf _ (by decide)]
          exact Bool.and_false _
        rw [hr, Ppu.tick1_of_lcdOn hon, BitVec.getLsbD_or, hdot, Bool.false_or, hrise, Ppu.advance_statPrev]
        exact ⟨rfl, hprev⟩
      · cases hr

/-! The scan of a line's sprites (R415). -/

/-- At most ten sprites, in the order of OAM (R400). -/
def Ppu.ScanList (p : Ppu) : Prop :=
  p.lineSprites.length ≤ 10 ∧ p.lineSprites.Pairwise (fun i j => i.val < j.val)

/-- The sprites that have the line, in the order of OAM. -/
theorem sorted_filter_finRange (on : Fin 40 → Bool) :
    ((List.finRange 40).filter on).Pairwise (fun i j => i.val < j.val) :=
  (List.pairwise_lt_finRange 40).filter on

theorem Ppu.oamScan_scanList (p : Ppu) (m : List Host.Cell) : (p.oamScan m).ScanList :=
  ⟨List.length_take_le _ _, (sorted_filter_finRange _).sublist (List.take_sublist _ _)⟩

theorem Ppu.spriteOnLine_iff (p : Ppu) (m : List Host.Cell) (i : Fin 40) : p.spriteOnLine m i = true ↔
    (Memory.read m (0xFE00 + 4 * i.val)).toNat ≤ p.ly.toNat + 16 ∧
    p.ly.toNat + 16 < (Memory.read m (0xFE00 + 4 * i.val)).toNat + if p.lcdc.getLsbD 2 then 16 else 8 := by
  simp only [Ppu.spriteOnLine, Bool.and_eq_true, decide_eq_true_eq]
  rfl

/-- What the first `n` entries of a sorted list leave out comes after `n` that they hold. -/
theorem after_of_not_mem_take {l : List (Fin 40)} (hl : l.Pairwise (fun i j => i.val < j.val)) {n : Nat} {i : Fin 40}
    (hi : i ∈ l) (hnot : i ∉ l.take n) : (l.take n).length = n ∧ ∀ j ∈ l.take n, j.val < i.val := by
  have hdrop : i ∈ l.drop n := by
    rw [← List.take_append_drop n l, List.mem_append] at hi
    exact hi.resolve_left hnot
  constructor
  · have := List.length_pos_of_mem hdrop
    rw [List.length_drop] at this
    rw [List.length_take]
    omega
  · rw [← List.take_append_drop n l, List.pairwise_append] at hl
    obtain ⟨-, -, hacross⟩ := hl
    exact fun j hj => hacross j hj i hdrop

/-- Settles O43: the list is the first ten of the sorted list of the sprites on the line. -/
theorem oamScanSelects : Obligations.OamScanSelects := by
  intro p m h on l
  obtain ⟨hten, hsorted⟩ := p.oamScan_scanList m
  refine ⟨hten, hsorted, fun i hi => ?_, fun i hi hnot => ?_⟩
  · obtain ⟨-, hon⟩ := List.mem_filter.mp (List.mem_of_mem_take hi)
    exact (p.spriteOnLine_iff m i).mp hon
  · have hmem : i ∈ (List.finRange 40).filter (p.spriteOnLine m) :=
      List.mem_filter.mpr ⟨List.mem_finRange i, (p.spriteOnLine_iff m i).mpr hi⟩
    exact after_of_not_mem_take (sorted_filter_finRange _) hmem hnot

/-! The schedule (R404, R410, R414). -/

/-- The mode that a line and a dot fix while the LCD is on. -/
def modeAt (ly dot : Nat) : PpuMode :=
  if 144 ≤ ly then .vblank
  else if dot < 80 then .oamScan
  else if dot < 252 then .draw
  else .hblank

theorem modeAt_vblank {ly : Nat} (h : 144 ≤ ly) (dot : Nat) : modeAt ly dot = .vblank := if_pos h

theorem modeAt_of_line {ly : Nat} (h : ly < 144) (dot : Nat) :
    modeAt ly dot = if dot < 80 then .oamScan else if dot < 252 then .draw else .hblank := if_neg (by omega)

/-- The mode changes at dots 80, 252 and 456 only. -/
theorem modeAt_succ {ly dot : Nat} (h80 : ¬(dot + 1 = 80 ∧ ly < 144)) (h252 : ¬(dot + 1 = 252 ∧ ly < 144)) :
    modeAt ly (dot + 1) = modeAt ly dot := by
  by_cases hly : ly < 144
  · have h1 : dot + 1 < 80 ↔ dot < 80 := by omega
    have h2 : dot + 1 < 252 ↔ dot < 252 := by omega
    simp only [modeAt_of_line hly, h1, h2]
  · rw [modeAt_vblank (by omega), modeAt_vblank (by omega)]

theorem Ppu.lineEnd_mode {p : Ppu} (hv : 144 ≤ p.ly.toNat → p.mode = .vblank) :
    p.lineEnd.1.mode = modeAt p.lineEnd.1.ly.toNat p.lineEnd.1.dot := by
  unfold Ppu.lineEnd
  dsimp only
  split_ifs with h1 h2 h3
  · rfl
  · exact (modeAt_vblank (by bv_omega) 0).symm
  · exact (modeAt_of_line h3 0).symm
  · exact (hv (by bv_omega)).trans (modeAt_vblank (by dsimp only; omega) 0).symm

theorem Ppu.advance_mode {p : Ppu} (h : p.mode = modeAt p.ly.toNat p.dot) (m : List Host.Cell) :
    (p.advance m).1.mode = modeAt (p.advance m).1.ly.toNat (p.advance m).1.dot := by
  unfold Ppu.advance Ppu.dotAction
  split_ifs with h80 h252 hend
  · obtain ⟨hdot, hly⟩ := h80
    exact (congrArg (modeAt p.ly.toNat) hdot).trans (modeAt_of_line hly 80) |>.symm
  · obtain ⟨hdot, hly⟩ := h252
    exact (congrArg (modeAt p.ly.toNat) hdot).trans (modeAt_of_line hly 252) |>.symm
  · exact Ppu.lineEnd_mode fun hv => h.trans (modeAt_vblank hv p.dot)
  · exact h.trans (modeAt_succ h80 h252).symm

theorem Ppu.advance_scanList {p : Ppu} (h : p.ScanList) (m : List Host.Cell) : (p.advance m).1.ScanList := by
  unfold Ppu.advance Ppu.dotAction
  split_ifs
  · exact Ppu.oamScan_scanList _ m
  · exact h
  · unfold Ppu.ScanList
    rw [(Ppu.lineEnd_kept _).2.2]
    exact h
  · exact h

/-- What `PpuInv` says of the PPU: the schedule, the remembered STAT bit and the scanned sprites. -/
def Ppu.Consistent (p : Ppu) : Prop := p.onSchedule ∧ p.statPrev = p.statLine ∧ p.ScanList

theorem ppuInv_iff (s : State) : PpuInv s ↔ s.ppu.Consistent := Iff.rfl

/-- `StatUpdate()` remembers the line, and moves nothing else. -/
theorem Ppu.consistent_statUpdate {p : Ppu} (hs : p.onSchedule) (hl : p.ScanList) : p.statUpdate.1.Consistent :=
  ⟨hs, rfl, hl⟩

/-- With the LCD on the schedule is a line, a dot and the mode that they fix. -/
theorem Ppu.onSchedule_of_lcdOn {p : Ppu} (hon : p.lcdOn = true) :
    p.onSchedule ↔ p.ly.toNat ≤ 153 ∧ p.dot < 456 ∧ p.mode = modeAt p.ly.toNat p.dot := by
  simp only [Ppu.onSchedule, hon, true_implies, Bool.true_eq_false, false_implies, and_true]
  rfl

theorem Ppu.advance_onSchedule {p : Ppu} (hon : p.lcdOn = true) (h : p.onSchedule) (m : List Host.Cell) :
    (p.advance m).1.onSchedule := by
  obtain ⟨hly, hdot, hmode⟩ := (Ppu.onSchedule_of_lcdOn hon).mp h
  rw [Ppu.onSchedule_of_lcdOn ((p.advance_lcdOn m).trans hon)]
  have hmode' := Ppu.advance_mode hmode m
  rcases Ppu.advance_position hly m with ⟨hd, hl, h0⟩ | ⟨hd, hl, h0⟩
  · exact ⟨by omega, by omega, hmode'⟩
  · exact ⟨hl ▸ hly, by omega, hmode'⟩

theorem Ppu.tick1_consistent {p : Ppu} (h : p.Consistent) (m : List Host.Cell) : (p.tick1 m).1.Consistent := by
  obtain ⟨hs, hprev, hl⟩ := h
  cases hon : p.lcdOn with
  | false =>
    rw [Ppu.tick1_of_lcdOff hon]
    exact ⟨hs, hprev, hl⟩
  | true =>
    rw [Ppu.tick1_of_lcdOn hon]
    exact Ppu.consistent_statUpdate (Ppu.advance_onSchedule hon hs m) (Ppu.advance_scanList hl m)

/-- Switched off, the PPU stands at line 0, dot 0, mode 0; switched on, at line 0, dot 0, mode 2 (R414). -/
theorem Ppu.lcdOff_onSchedule {p : Ppu} (h : p.lcdOn = false) : p.lcdOff.onSchedule :=
  ⟨Nat.zero_le 153, (by decide : 0 < 456), fun hon => absurd (h.symm.trans hon) nofun, fun _ => ⟨rfl, rfl, rfl⟩⟩

theorem Ppu.startLcd_onSchedule {p : Ppu} (h : p.lcdOn = true) : p.startLcd.onSchedule :=
  ⟨Nat.zero_le 153, (by decide : 0 < 456), fun _ => rfl, fun hoff => absurd (h.symm.trans hoff) nofun⟩

theorem Ppu.writeLcdc_consistent {p : Ppu} (h : p.Consistent) (v : Byte) : (p.writeLcdc v).1.Consistent := by
  obtain ⟨hs, hprev, hl⟩ := h
  rcases p.writeLcdc_cases v with ⟨hv, hon, e⟩ | ⟨hv, hoff, e⟩ | ⟨hv, e⟩ <;> rw [e]
  · exact Ppu.consistent_statUpdate (Ppu.lcdOff_onSchedule hv) ⟨Nat.zero_le _, .nil⟩
  · exact Ppu.consistent_statUpdate (Ppu.startLcd_onSchedule hv) hl
  · refine Ppu.consistent_statUpdate ?_ hl
    have hon : Ppu.lcdOn { p with lcdc := v } = p.lcdOn := hv
    unfold Ppu.onSchedule
    rw [hon]
    exact hs

theorem Ppu.write_consistent {p : Ppu} (h : p.Consistent) (r : PpuReg) (v : Byte) : (p.write r v).1.Consistent := by
  cases r
  case lcdc => exact Ppu.writeLcdc_consistent h v
  case stat | lyc => exact Ppu.consistent_statUpdate h.1 h.2.2
  all_goals exact h

/-- Everything a bus write can do to the PPU: nothing, a write of `DMA`, or a write of one of its registers. -/
theorem State.write8_ppu (s : State) (a : Word) (v : Byte) : (s.write8 a v).ppu = s.ppu ∨
    (s.write8 a v).ppu = { s.ppu with dma := v } ∨ ∃ r, (s.write8 a v).ppu = (s.ppu.write r v).1 := by
  rcases s.write8_cases a v with e | ⟨k, -, e⟩ | e | e | e | ⟨r, -, e⟩ <;> rw [e]
  case inr.inr.inr.inr.inr =>
    cases r
    case ppu r => exact .inr (.inr ⟨r, rfl⟩)
    case dma =>
      show (s.oamDma v).ppu = _ ∨ _
      rw [State.oamDma_eq]
      exact .inr (.inl rfl)
    all_goals exact .inl rfl
  all_goals exact .inl rfl

theorem State.write8_ppuInv {s : State} (h : PpuInv s) (a : Word) (v : Byte) : PpuInv (s.write8 a v) := by
  rw [ppuInv_iff] at h ⊢
  rcases s.write8_ppu a v with e | e | ⟨r, e⟩ <;> rw [e]
  · exact h
  · exact h
  · exact Ppu.write_consistent h r v

/-- Settles O57: a t-cycle moves the beam along the schedule, and the writes of `LCDC` move it to its start. -/
theorem stepKeepsPpuSchedule : Obligations.StepKeepsPpuSchedule := fun _ _ =>
  step_keeps (P := PpuInv) (fun _ _ h => h) (fun _ _ h => h) (fun _ _ h => h)
    (fun _ a v h => State.write8_ppuInv h a v)
    fun u => State.tick_keeps (P := PpuInv) (fun s h => Ppu.tick1_consistent h s.mem) 4 u

/-! The priority of sprites (R428). -/

/-- `best` is the winner of `SpritePixel` over the sprites `l`: nothing where none has a coloured pixel in column `x`,
else the pixel of the one of smallest `X`, and of those the first. -/
def Ppu.Wins (p : Ppu) (m : List Host.Cell) (x : Nat) (l : List (Fin 40)) (best : Option SpriteHit) : Prop :=
  match best with
  | none => ∀ i ∈ l, p.spriteColour m x i = 0
  | some b => ∃ i ∈ l, p.spriteColour m x i ≠ 0 ∧ b = ⟨oamByte m i 1, p.spriteColour m x i, oamByte m i 3⟩ ∧
    ∀ j ∈ l, p.spriteColour m x j ≠ 0 → (oamByte m i 1).toNat < (oamByte m j 1).toNat ∨
      (oamByte m i 1 = oamByte m j 1 ∧ i.val ≤ j.val)

section
variable {p : Ppu} {m : List Host.Cell} {x : Nat} {k : Fin 40}

theorem Ppu.spriteRound_of_blank (hc : p.spriteColour m x k = 0) (best : Option SpriteHit) :
    p.spriteRound m x best k = best := if_pos hc

theorem Ppu.spriteRound_none (hc : p.spriteColour m x k ≠ 0) :
    p.spriteRound m x none k = some ⟨oamByte m k 1, p.spriteColour m x k, oamByte m k 3⟩ := if_neg hc

theorem Ppu.spriteRound_some (hc : p.spriteColour m x k ≠ 0) (b : SpriteHit) : p.spriteRound m x (some b) k =
    if (oamByte m k 1).toNat < b.x.toNat then some ⟨oamByte m k 1, p.spriteColour m x k, oamByte m k 3⟩
    else some b := if_neg hc

/-- A round keeps the winner, when the sprite that it looks at comes after the ones before it. -/
theorem Ppu.Wins.round {l : List (Fin 40)} {best : Option SpriteHit} (h : p.Wins m x l best)
    (hk : ∀ i ∈ l, i.val < k.val) : p.Wins m x (l ++ [k]) (p.spriteRound m x best k) := by
  have hmem : k ∈ l ++ [k] := List.mem_append_right l List.mem_cons_self
  by_cases hc : p.spriteColour m x k = 0
  · rw [Ppu.spriteRound_of_blank hc]
    cases best with
    | none => exact List.forall_mem_append.mpr ⟨h, List.forall_mem_singleton.mpr hc⟩
    | some b =>
      obtain ⟨i, hi, hci, hb, hfirst⟩ := h
      exact ⟨i, List.mem_append_left _ hi, hci, hb,
        List.forall_mem_append.mpr ⟨hfirst, List.forall_mem_singleton.mpr fun hne => absurd hc hne⟩⟩
  · cases best with
    | none =>
      rw [Ppu.spriteRound_none hc]
      exact ⟨k, hmem, hc, rfl, List.forall_mem_append.mpr
        ⟨fun j hj hne => absurd (h j hj) hne, List.forall_mem_singleton.mpr fun _ => .inr ⟨rfl, Nat.le_refl _⟩⟩⟩
    | some b =>
      obtain ⟨i, hi, hci, rfl, hfirst⟩ := h
      rw [Ppu.spriteRound_some hc]
      split
      · next hlt =>
        refine ⟨k, hmem, hc, rfl, List.forall_mem_append.mpr
          ⟨fun j hj hne => .inl ?_, List.forall_mem_singleton.mpr fun _ => .inr ⟨rfl, Nat.le_refl _⟩⟩⟩
        rcases hfirst j hj hne with hj | ⟨hj, -⟩
        · exact hlt.trans hj
        · exact hj ▸ hlt
      · next hge =>
        refine ⟨i, List.mem_append_left _ hi, hci, rfl,
          List.forall_mem_append.mpr ⟨hfirst, List.forall_mem_singleton.mpr fun _ => ?_⟩⟩
        rcases Nat.lt_or_eq_of_le (Nat.le_of_not_lt hge) with hlt | heq
        · exact .inl hlt
        · exact .inr ⟨BitVec.eq_of_toNat_eq heq, (hk i hi).le⟩

theorem Ppu.wins_foldl {l : List (Fin 40)} (hl : l.Pairwise (fun i j => i.val < j.val)) :
    p.Wins m x l (l.foldl (p.spriteRound m x) none) := by
  induction l using List.reverseRecOn with
  | nil => exact nofun
  | append_singleton l k ih =>
    obtain ⟨hsorted, -, hlast⟩ := List.pairwise_append.mp hl
    rw [List.foldl_append]
    exact (ih hsorted).round fun i hi => hlast i hi k List.mem_cons_self

end

/-- Settles O44: the loop keeps the winner of the sprites that it has looked at. -/
theorem spritePriority : Obligations.SpritePriority := by
  intro p m x hon hl
  have hpixel : p.spritePixel m x = p.lineSprites.foldl (p.spriteRound m x) none := if_pos hon
  have hwins : p.Wins m x p.lineSprites (p.spritePixel m x) := hpixel ▸ Ppu.wins_foldl hl
  refine ⟨fun hnone => ?_, fun b hsome => ?_⟩
  · rwa [hnone] at hwins
  · rw [hsome] at hwins
    obtain ⟨i, hi, hc, rfl, hfirst⟩ := hwins
    exact ⟨i, hi, hc, rfl, rfl, rfl, hfirst⟩

/-! The composition of a line (R425, R427, R429). -/

/-- `RenderLine()` writes the row of the line (R425). -/
theorem Ppu.renderLine_framebuffer (p : Ppu) (m : List Host.Cell) : (p.renderLine m).framebuffer =
    p.framebuffer.setIfInBounds p.ly.toNat (Vector.ofFn fun x : Fin 160 => p.latchWy.pixel m x.val) := rfl

/-- A sprite pixel is hidden where its priority bit is 1 and the plane, when it is on, is not of colour 0 (R429). -/
theorem Ppu.merge_some (p : Ppu) (c : BitVec 2) (shade : Shade) (b : SpriteHit) : p.merge c shade (some b) =
    if p.lcdc.getLsbD 0 = true ∧ b.attr.getLsbD 7 = true ∧ c ≠ 0 then shade
    else paletteShade (if b.attr.getLsbD 4 then p.obp1 else p.obp0) b.colour := by
  have hcond : (bit p.lcdc 0 && bit b.attr 7 && c != 0) = true ↔
      p.lcdc.getLsbD 0 = true ∧ b.attr.getLsbD 7 = true ∧ c ≠ 0 := by
    simp only [bit_eq, Bool.and_eq_true, bne_iff_ne, and_assoc]
  exact if_congr hcond rfl rfl

theorem Ppu.winOn_iff (p : Ppu) : p.winOn = true ↔
    p.lcdc.getLsbD 0 = true ∧ p.lcdc.getLsbD 5 = true ∧ p.wyLatch = true ∧ p.wx.toNat ≤ 166 := by
  simp only [Ppu.winOn, bit_eq, Bool.and_eq_true, decide_eq_true_eq, and_assoc]

theorem Ppu.renderLine_winLine (p : Ppu) (m : List Host.Cell) :
    (p.renderLine m).winLine = p.winLine + 1 ↔ p.latchWy.winOn = true := by
  show (if p.latchWy.winOn then p.winLine + 1 else p.winLine) = p.winLine + 1 ↔ _
  split
  · next h => exact iff_of_true rfl h
  · next h => exact iff_of_false (Nat.succ_ne_self _).symm h

/-- Settles O45: the row is the one of the latched PPU's pixels, each the merge of its plane and its sprite layer. -/
theorem lineComposition : Obligations.LineComposition := by
  intro p m
  refine ⟨fun y hy hne => ?_, fun hy x hx => ⟨p.latchWy.planeColour m x, p.latchWy, rfl, rfl, ?_⟩, ?_⟩
  · simp only [Ppu.renderLine_framebuffer, Vector.getElem_setIfInBounds, if_neg (Ne.symm hne)]
  · simp only [Ppu.renderLine_framebuffer, Vector.getElem_setIfInBounds, if_pos, Vector.getElem_ofFn, Ppu.pixel]
    cases p.latchWy.spritePixel m x with
    | none => rfl
    | some b =>
      refine (p.latchWy.merge_some _ _ b).trans ?_
      split
      · next h =>
        exact (if_pos h.1).trans (if_pos h).symm
      · next h => exact (if_neg h).symm
  · have hlatch : p.latchWy.wyLatch = true ↔ p.wyLatch = true ∨ p.ly = p.wy := by
      rw [Ppu.latchWy, Bool.or_eq_true, beq_iff_eq]
    rw [Ppu.renderLine_winLine, Ppu.winOn_iff, hlatch]
    rfl

end Sys2Proof.Machine
end

section
/-! PROOFS. The APU (62_apu.md): the DAC rule, power off, and the clocks of the frame sequencer. -/

set_option Elab.async false

namespace Sys2Proof.Machine

/-! What never switches a channel on (R481 to R487): `d` comes from `c` with the DAC's settings kept, and is enabled
only if `c` is. -/

def Square.Follows (c d : Square) : Prop :=
  (d.enabled = true → c.enabled = true) ∧ d.envInit = c.envInit ∧ d.envDir = c.envDir

def Wave.Follows (c d : Wave) : Prop := (d.enabled = true → c.enabled = true) ∧ d.dac = c.dac

def Noise.Follows (c d : Noise) : Prop :=
  (d.enabled = true → c.enabled = true) ∧ d.envInit = c.envInit ∧ d.envDir = c.envDir

/-- `LengthClock` switches a channel off or leaves it (R482). -/
theorem lengthClock_enabled {lenEnable enabled : Bool} {length : Nat}
    (h : (lengthClock lenEnable enabled length).2 = true) : enabled = true := by
  unfold lengthClock at h
  split_ifs at h
  · exact h
  · exact h

theorem Square.follows_lengthClock (c : Square) : c.Follows c.lengthClock := ⟨lengthClock_enabled, rfl, rfl⟩

theorem Wave.follows_lengthClock (c : Wave) : c.Follows c.lengthClock := ⟨lengthClock_enabled, rfl⟩

theorem Noise.follows_lengthClock (c : Noise) : c.Follows c.lengthClock := ⟨lengthClock_enabled, rfl, rfl⟩

/-- What the sweep does to ch1 (R484): it leaves the length counter and the DAC, and never switches the channel on. -/
def Square.SweptTo (c d : Square) : Prop :=
  (d.enabled = true → c.enabled = true) ∧ d.envInit = c.envInit ∧ d.envDir = c.envDir ∧
  d.lenEnable = c.lenEnable ∧ d.length = c.length

theorem Square.sweepCheck_sweptTo (c : Square) (w : Sweep) : c.SweptTo (c.sweepCheck w) := by
  unfold Square.sweepCheck
  split
  · exact ⟨nofun, rfl, rfl, rfl, rfl⟩
  · exact ⟨id, rfl, rfl, rfl, rfl⟩

theorem Square.SweptTo.trans {c d e : Square} (h : c.SweptTo d) (g : d.SweptTo e) : c.SweptTo e := by
  obtain ⟨h1, h2, h3, h4, h5⟩ := h
  obtain ⟨g1, g2, g3, g4, g5⟩ := g
  exact ⟨h1 ∘ g1, g2.trans h2, g3.trans h3, g4.trans h4, g5.trans h5⟩

theorem sweepStep_sweptTo (c : Square) (w : Sweep) : c.SweptTo (sweepStep c w).1 := by
  have hcheck := c.sweepCheck_sweptTo w
  unfold sweepStep
  dsimp only
  split
  · refine hcheck.trans ((?_ : Square.SweptTo _ _).trans (Square.sweepCheck_sweptTo _ _))
    exact ⟨id, rfl, rfl, rfl, rfl⟩
  · exact hcheck

theorem sweepClock_sweptTo (c : Square) (w : Sweep) : c.SweptTo (sweepClock c w).1 := by
  unfold sweepClock
  dsimp only
  split_ifs
  · exact ⟨id, rfl, rfl, rfl, rfl⟩
  · exact sweepStep_sweptTo c _
  · exact ⟨id, rfl, rfl, rfl, rfl⟩

/-- The sweep does not write its own enable and period (R484). -/
theorem sweepClock_settings (c : Square) (w : Sweep) :
    (sweepClock c w).2.enabled = w.enabled ∧ (sweepClock c w).2.period = w.period := by
  unfold sweepClock sweepStep
  dsimp only
  split_ifs <;> exact ⟨rfl, rfl⟩

/-- The sweep does not calculate (R484). -/
def Sweep.Idle (w : Sweep) : Prop := w.enabled = false ∨ w.period = 0

/-- A sweep that does not calculate leaves ch1. -/
theorem sweepClock_of_idle {w : Sweep} (h : w.Idle) (c : Square) : (sweepClock c w).1 = c := by
  have hoff : (w.enabled && w.period != 0) = false := by
    rcases h with h | h <;> simp [h]
  unfold sweepClock
  dsimp only
  split
  · rfl
  · rw [if_neg (hoff ▸ Bool.false_ne_true)]

/-- No channel of `a` is switched on in `b`, and every DAC keeps its settings. -/
def Apu.Follows (a b : Apu) : Prop :=
  a.ch1.Follows b.ch1 ∧ a.ch2.Follows b.ch2 ∧ a.ch3.Follows b.ch3 ∧ a.ch4.Follows b.ch4

theorem Apu.Follows.refl (a : Apu) : a.Follows a := ⟨⟨id, rfl, rfl⟩, ⟨id, rfl, rfl⟩, ⟨id, rfl⟩, ⟨id, rfl, rfl⟩⟩

theorem Apu.Follows.trans {a b c : Apu} (h : a.Follows b) (g : b.Follows c) : a.Follows c := by
  obtain ⟨⟨h1, i1, d1⟩, ⟨h2, i2, d2⟩, ⟨h3, d3⟩, ⟨h4, i4, d4⟩⟩ := h
  obtain ⟨⟨g1, j1, e1⟩, ⟨g2, j2, e2⟩, ⟨g3, e3⟩, ⟨g4, j4, e4⟩⟩ := g
  exact ⟨⟨h1 ∘ g1, j1.trans i1, e1.trans d1⟩, ⟨h2 ∘ g2, j2.trans i2, e2.trans d2⟩, ⟨h3 ∘ g3, e3.trans d3⟩,
    ⟨h4 ∘ g4, j4.trans i4, e4.trans d4⟩⟩

theorem Apu.follows_lengthClock (a : Apu) : a.Follows a.lengthClock :=
  ⟨a.ch1.follows_lengthClock, a.ch2.follows_lengthClock, a.ch3.follows_lengthClock, a.ch4.follows_lengthClock⟩

theorem Apu.follows_sweepClock (a : Apu) : a.Follows a.sweepClock := by
  obtain ⟨hon, hinit, hdir, -, -⟩ := sweepClock_sweptTo a.ch1 a.sweep
  obtain ⟨-, h2, h3, h4⟩ := Apu.Follows.refl a
  exact ⟨⟨hon, hinit, hdir⟩, h2, h3, h4⟩

theorem Apu.follows_envelopeClock (a : Apu) : a.Follows a.envelopeClock := Apu.Follows.refl a

/-! The frame sequencer (R481). -/

/-- What the sequencer clocks: nothing or the envelopes in an odd step, the lengths and perhaps the sweep in an even
one. -/
theorem Apu.sequencerAction_cases (a : Apu) :
    (a.fsStep.getLsbD 0 = true ∧ (a.sequencerAction = a ∨ a.sequencerAction = a.envelopeClock)) ∨
    (a.fsStep.getLsbD 0 = false ∧
      (a.sequencerAction = a.lengthClock ∨ a.sequencerAction = a.lengthClock.sweepClock)) := by
  unfold Apu.sequencerAction
  split <;> rename_i h <;> rw [h]
  · exact .inr ⟨rfl, .inl rfl⟩
  · exact .inl ⟨rfl, .inl rfl⟩
  · exact .inr ⟨rfl, .inr rfl⟩
  · exact .inl ⟨rfl, .inl rfl⟩
  · exact .inr ⟨rfl, .inl rfl⟩
  · exact .inl ⟨rfl, .inl rfl⟩
  · exact .inr ⟨rfl, .inr rfl⟩
  · exact .inl ⟨rfl, .inr rfl⟩

theorem Apu.sequencerAction_power (a : Apu) : a.sequencerAction.power = a.power := by
  rcases a.sequencerAction_cases with ⟨-, e | e⟩ | ⟨-, e | e⟩ <;> rw [e] <;> rfl

theorem Apu.sequencerClock_of_power {a : Apu} (h : a.power = true) :
    a.sequencerClock = { a.sequencerAction with fsStep := a.fsStep + 1 } := if_pos h

theorem Apu.sequencerClock_of_off {a : Apu} (h : a.power = false) : a.sequencerClock = a :=
  if_neg (h ▸ Bool.false_ne_true)

theorem Apu.follows_sequencerClock (a : Apu) : a.Follows a.sequencerClock := by
  cases hp : a.power with
  | false =>
    rw [Apu.sequencerClock_of_off hp]
    exact Apu.Follows.refl a
  | true =>
    rw [Apu.sequencerClock_of_power hp]
    show a.Follows a.sequencerAction
    rcases a.sequencerAction_cases with ⟨-, e | e⟩ | ⟨-, e | e⟩ <;> rw [e]
    · exact Apu.Follows.refl a
    · exact a.follows_envelopeClock
    · exact a.follows_lengthClock
    · exact a.follows_lengthClock.trans a.lengthClock.follows_sweepClock

/-- The generators write neither an enabled flag nor a DAC (R485 to R487). -/
theorem Apu.follows_generate (a : Apu) (m : List Host.Cell) : a.Follows (a.generate m) := by
  have square (c : Square) : c.Follows c.tick := by
    unfold Square.tick
    split <;> exact ⟨id, rfl, rfl⟩
  have wave : a.ch3.Follows (a.ch3.tick m) := by
    unfold Wave.tick
    split <;> exact ⟨id, rfl⟩
  have noise : a.ch4.Follows a.ch4.tick := by
    unfold Noise.tick
    split <;> exact ⟨id, rfl, rfl⟩
  unfold Apu.generate
  split
  · exact ⟨square _, square _, wave, noise⟩
  · exact Apu.Follows.refl a

theorem Apu.follows_tick1 (a : Apu) (sysclk : BitVec 16) (m : List Host.Cell) : a.Follows (a.tick1 sysclk m) := by
  unfold Apu.tick1
  split
  · exact a.follows_sequencerClock.trans (Apu.follows_generate _ m)
  · exact a.follows_generate m

/-! The DAC rule (R495). -/

def Square.DacRule (c : Square) : Prop := c.enabled = true → c.envInit ≠ 0 ∨ c.envDir = true

def Wave.DacRule (c : Wave) : Prop := c.enabled = true → c.dac = true

def Noise.DacRule (c : Noise) : Prop := c.enabled = true → c.envInit ≠ 0 ∨ c.envDir = true

def Apu.DacRule (a : Apu) : Prop := a.ch1.DacRule ∧ a.ch2.DacRule ∧ a.ch3.DacRule ∧ a.ch4.DacRule

theorem dacInv_iff (s : State) : DacInv s ↔ s.apu.DacRule := Iff.rfl

theorem Apu.DacRule.of_follows {a b : Apu} (h : a.DacRule) (g : a.Follows b) : b.DacRule := by
  obtain ⟨h1, h2, h3, h4⟩ := h
  obtain ⟨⟨g1, i1, d1⟩, ⟨g2, i2, d2⟩, ⟨g3, d3⟩, ⟨g4, i4, d4⟩⟩ := g
  unfold Apu.DacRule Square.DacRule Wave.DacRule Noise.DacRule
  rw [i1, d1, i2, d2, d3, i4, d4]
  exact ⟨h1 ∘ g1, h2 ∘ g2, h3 ∘ g3, h4 ∘ g4⟩

theorem Square.dacOn_iff (c : Square) : c.dacOn = true ↔ c.envInit ≠ 0 ∨ c.envDir = true := by
  rw [Square.dacOn, Bool.or_eq_true, bne_iff_ne]

theorem Noise.dacOn_iff (c : Noise) : c.dacOn = true ↔ c.envInit ≠ 0 ∨ c.envDir = true := by
  rw [Noise.dacOn, Bool.or_eq_true, bne_iff_ne]

/-- A trigger of ch1 or ch2 ends in the DAC test (R490, R491). -/
theorem Square.dacTest_dacRule (c : Square) : c.dacTest.DacRule := by
  unfold Square.dacTest
  split
  · next hdac => exact fun _ => c.dacOn_iff.mp hdac
  · exact nofun

/-- A trigger of ch3 or ch4 enables the channel when its DAC is on (R492, R493). -/
theorem Wave.trigger_dacRule (c : Wave) : c.trigger.DacRule := id

theorem Noise.trigger_dacRule (c : Noise) : c.trigger.DacRule := c.dacOn_iff.mp

/-- A value of `NRx2` that leaves the channel enabled switches the DAC on (R455). -/
theorem dac_of_envelope {enabled : Bool} (v : Byte)
    (h : (if v.extractLsb' 3 5 = 0 then false else enabled) = true) : v.extractLsb' 4 4 ≠ 0 ∨ bit v 3 = true := by
  have hbits : ∀ w : Byte, w.extractLsb' 3 5 ≠ 0 → w.extractLsb' 4 4 ≠ 0 ∨ bit w 3 = true := by decide
  refine hbits v fun hz => ?_
  rw [if_pos hz] at h
  cases h

theorem Square.writeNrx2_dacRule (c : Square) (v : Byte) : (c.writeNrx2 v).DacRule := dac_of_envelope v

theorem Noise.writeNr42_dacRule (c : Noise) (v : Byte) : (c.writeNr42 v).DacRule := dac_of_envelope v

theorem Wave.writeNr30_dacRule (c : Wave) (v : Byte) : (c.writeNr30 v).DacRule := by
  intro h
  show bit v 7 = true
  by_contra hoff
  exact absurd ((if_neg hoff).symm.trans h) nofun

theorem Apu.writeNr52_dacRule {a : Apu} (h : a.DacRule) (v : Byte) : (a.writeNr52 v).DacRule := by
  unfold Apu.writeNr52
  split_ifs
  · exact ⟨nofun, nofun, nofun, nofun⟩
  · exact h
  · exact h

theorem Apu.writePowered_dacRule {a : Apu} (h : a.DacRule) (r : ApuReg) (v : Byte) :
    (a.writePowered r v).DacRule := by
  obtain ⟨h1, h2, h3, h4⟩ := h
  cases r
  case nr12 => exact ⟨a.ch1.writeNrx2_dacRule v, h2, h3, h4⟩
  case nr22 => exact ⟨h1, a.ch2.writeNrx2_dacRule v, h3, h4⟩
  case nr30 => exact ⟨h1, h2, a.ch3.writeNr30_dacRule v, h4⟩
  case nr42 => exact ⟨h1, h2, h3, a.ch4.writeNr42_dacRule v⟩
  case nr14 =>
    show (a.writeNr14 v).DacRule
    unfold Apu.writeNr14
    dsimp only
    split
    · exact ⟨Square.dacTest_dacRule _, h2, h3, h4⟩
    · exact ⟨h1, h2, h3, h4⟩
  case nr24 =>
    show (a.writeNr24 v).DacRule
    unfold Apu.writeNr24
    dsimp only
    split
    · exact ⟨h1, Square.dacTest_dacRule _, h3, h4⟩
    · exact ⟨h1, h2, h3, h4⟩
  case nr34 =>
    refine ⟨h1, h2, ?_, h4⟩
    show Wave.DacRule (if bit v 7 then (a.ch3.writeNr34 v).trigger else a.ch3.writeNr34 v)
    split
    · exact Wave.trigger_dacRule _
    · exact h3
  case nr44 =>
    refine ⟨h1, h2, h3, ?_⟩
    show Noise.DacRule (if bit v 7 then (a.ch4.writeNr44 v).trigger else a.ch4.writeNr44 v)
    split
    · exact Noise.trigger_dacRule _
    · exact h4
  case nr52 => exact Apu.writeNr52_dacRule ⟨h1, h2, h3, h4⟩ v
  all_goals exact ⟨h1, h2, h3, h4⟩

theorem Apu.write_dacRule {a : Apu} (h : a.DacRule) (r : ApuReg) (v : Byte) : (a.write r v).DacRule := by
  unfold Apu.write
  split_ifs
  · exact Apu.writeNr52_dacRule h v
  · exact Apu.writePowered_dacRule h r v
  · exact h

/-- Everything a bus write can do to the APU: nothing, a clock of the frame sequencer, or a write of a register. -/
theorem State.write8_apu (s : State) (a : Word) (v : Byte) : (s.write8 a v).apu = s.apu ∨
    (s.write8 a v).apu = s.apu.sequencerClock ∨ ∃ r, (s.write8 a v).apu = s.apu.write r v := by
  rcases s.write8_cases a v with e | ⟨k, -, e⟩ | e | e | e | ⟨r, -, e⟩ <;> rw [e]
  case inr.inr.inr.inr.inr =>
    cases r
    case apu r => exact .inr (.inr ⟨r, rfl⟩)
    case div =>
      have hdiv : (s.writeIo a .div v).apu =
          if s.timer.divClocksSequencer then s.apu.sequencerClock else s.apu := rfl
      rw [hdiv]
      split
      · exact .inr (.inl rfl)
      · exact .inl rfl
    case dma =>
      show (s.oamDma v).apu = _ ∨ _
      rw [State.oamDma_eq]
      exact .inl rfl
    all_goals exact .inl rfl
  all_goals exact .inl rfl

theorem State.write8_dacInv {s : State} (h : DacInv s) (a : Word) (v : Byte) : DacInv (s.write8 a v) := by
  rw [dacInv_iff] at h ⊢
  rcases s.write8_apu a v with e | e | ⟨r, e⟩ <;> rw [e]
  · exact h
  · exact h.of_follows s.apu.follows_sequencerClock
  · exact Apu.write_dacRule h r v

theorem State.tick1_dacInv {s : State} (h : DacInv s) : DacInv s.tick1 :=
  Apu.DacRule.of_follows h (s.apu.follows_tick1 s.timer.tick1.1.sysclk s.mem)

/-- Settles O59: clocks and t-cycles switch no channel on, and the writes that do look at the DAC. -/
theorem stepKeepsDacRule : Obligations.StepKeepsDacRule := fun _ _ =>
  step_keeps (P := DacInv) (fun _ _ h => h) (fun _ _ h => h) (fun _ _ h => h)
    (fun _ a v h => State.write8_dacInv h a v)
    fun u => State.tick_keeps (P := DacInv) (fun _ => State.tick1_dacInv) 4 u

/-! Power (R467, R500). -/

theorem State.write8_nr52 (s : State) (v : Byte) : s.write8 0xFF26 v = s.setApu (s.apu.writeNr52 v) :=
  State.write8_of_ioReg (a := 0xFF26) (r := .apu .nr52) rfl rfl s v

/-- The APU after its power has been switched off (R500). -/
def Apu.switchedOff (a : Apu) : Apu := { a.powerOff with power := false }

theorem Apu.writeNr52_off {a : Apu} {v : Byte} (hp : a.power = true) (hv : v.getLsbD 7 = false) :
    a.writeNr52 v = a.switchedOff := by
  rw [Apu.writeNr52, hp, bit_eq, hv]
  rfl

theorem Apu.writeNr52_on {a : Apu} {v : Byte} (hp : a.power = false) :
    a.writeNr52 v = if v.getLsbD 7 then { a with power := true, fsStep := 0 } else a := by
  rw [Apu.writeNr52, hp, bit_eq]
  cases v.getLsbD 7 <;> rfl

theorem Apu.writeNr52_of_on {a : Apu} {v : Byte} (hp : a.power = true) (hv : v.getLsbD 7 = true) :
    a.writeNr52 v = a := by
  rw [Apu.writeNr52, hp, bit_eq, hv]
  rfl

/-- What a register reads after power off does not depend on the APU before: no read shows a length or the step. -/
theorem Apu.read_switchedOff (a : Apu) (r : ApuReg) : a.switchedOff.read r = Apu.cold.switchedOff.read r := by
  cases r <;> rfl

/-- A table of the masks, checked on the reset state switched off, holds for every APU switched off. -/
theorem State.read8_switchedOff_table {rows : List (Word × Byte)}
    (h : rows.all (fun row => match ioReg row.1 with
      | some (.apu r) => regionOf row.1 == .io && Apu.cold.switchedOff.read r == row.2
      | _ => false) = true)
    (s : State) : ∀ row ∈ rows, (s.setApu s.apu.switchedOff).read8 row.1 = row.2 := by
  intro row hrow
  have hcheck := List.all_eq_true.mp h row hrow
  split at hcheck
  · next r hr =>
    rw [Bool.and_eq_true, beq_iff_eq, beq_iff_eq] at hcheck
    obtain ⟨hio, hread⟩ := hcheck
    rw [State.read8_of_ioReg hio hr]
    exact (s.apu.read_switchedOff r).trans hread
  · cases hcheck

/-- The addresses `FF10–FF25` hold registers of the APU other than `NR52`, or nothing (R34, R70). -/
theorem ioReg_of_gated {a : Word} (h : 0xFF10 ≤ a.toNat ∧ a.toNat ≤ 0xFF25) :
    ioReg a = none ∨ ∃ r, r ≠ .nr52 ∧ ioReg a = some (.apu r) := by
  cases hr : ioReg a with
  | none => exact .inl rfl
  | some x =>
    have hx : x ≠ .wave := fun hx => by
      have := wave_bounds_of_ioReg (hx ▸ hr)
      omega
    have haddr := toNat_eq_address_of_ioReg hr hx
    have hgated : ∀ row ∈ ioTable, 0xFF10 ≤ row.1 ∧ row.1 ≤ 0xFF25 →
        (match row.2 with | .apu r => r != .nr52 | _ => false) = true := by decide
    have hrow := hgated _ (mem_ioTable_of_ioReg hr hx) h
    cases x with
    | apu r => exact .inr ⟨r, bne_iff_ne.mp hrow, rfl⟩
    | _ => cases hrow

theorem Apu.write_of_off {a : Apu} (hp : a.power = false) {r : ApuReg} (hr : r ≠ .nr52) (v : Byte) :
    a.write r v = a := by
  rw [Apu.write, if_neg hr, hp]
  rfl

/-- Without power the gated registers drop every write (R500). -/
theorem State.write8_gated_of_off {s : State} (hp : s.apu.power = false) {a : Word}
    (h : 0xFF10 ≤ a.toNat ∧ a.toNat ≤ 0xFF25) (v : Byte) : s.write8 a v = s := by
  have hio : regionOf a = .io := regionOf_io (by omega)
  rcases ioReg_of_gated h with hnone | ⟨r, hr, hreg⟩
  · exact (State.access_of_unmapped (.inr ⟨hio, hnone⟩) s v).2
  · rw [State.write8_of_ioReg hio hreg]
    exact congrArg s.setApu (Apu.write_of_off hp hr v)

theorem Apu.tick1_of_off {a : Apu} (hp : a.power = false) (sysclk : BitVec 16) (m : List Host.Cell) :
    a.tick1 sysclk m = a := by
  rw [Apu.tick1, Apu.sequencerClock_of_off hp, ite_self, Apu.generate, hp]
  rfl

/-- Settles O46: without power the gated registers, the t-cycle and the sequencer do nothing, and `NR52` moves the power
alone. -/
theorem apuPowerOff : Obligations.ApuPowerOff := by
  refine ⟨fun s t v hp hv ht => ?_, fun s hp => ⟨fun a w hlow hhigh => State.write8_gated_of_off hp ⟨hlow, hhigh⟩ w,
    Apu.sequencerClock_of_off hp, Apu.tick1_of_off hp _ _, ?_, fun v => ?_⟩, fun s v hp hv => ?_⟩
  · have hoff : t = s.setApu s.apu.switchedOff := by rw [ht, State.write8_nr52, Apu.writeNr52_off hp hv]
    rw [hoff]
    exact ⟨rfl, State.read8_switchedOff_table (by decide) s, State.read8_switchedOff_table (by decide) s⟩
  · rw [Apu.audioOut, hp]
    rfl
  · rw [State.write8_nr52, Apu.writeNr52_on hp]
    split <;> rfl
  · rw [State.write8_nr52, Apu.writeNr52_of_on hp hv]
    rfl

/-! Eight clocks of the frame sequencer (R481, R482). -/

/-- What `LengthClock` reads and writes of a channel (R482). -/
structure LengthCounter where
  lenEnable : Bool
  length : Nat
  enabled : Bool

/-- `LengthClock` (R482). -/
def LengthCounter.clock (k : LengthCounter) : LengthCounter :=
  let r := lengthClock k.lenEnable k.enabled k.length
  { k with length := r.1, enabled := r.2 }

theorem LengthCounter.clock_eq (k : LengthCounter) : k.clock =
    ⟨k.lenEnable, if k.lenEnable then k.length - 1 else k.length,
      k.enabled && !(k.lenEnable && decide (k.length = 1))⟩ := by
  obtain ⟨_ | _, length, enabled⟩ := k
  · simp [LengthCounter.clock, lengthClock]
  · rcases length with _ | _ | n <;> simp [LengthCounter.clock, lengthClock]

/-- After `n` clocks a running counter has gone down by `n`, and switched its channel off if it passed 0. -/
theorem LengthCounter.clock_iterate (k : LengthCounter) (n : Nat) : LengthCounter.clock^[n] k =
    ⟨k.lenEnable, if k.lenEnable then k.length - n else k.length,
      k.enabled && !(k.lenEnable && decide (0 < k.length ∧ k.length ≤ n))⟩ := by
  induction n with
  | zero =>
    have hnone : ¬(0 < k.length ∧ k.length ≤ 0) := by omega
    rw [decide_eq_false hnone, Bool.and_false, Bool.not_false, Bool.and_true, Nat.sub_zero, ite_self]
    rfl
  | succ n ih =>
    rw [Function.iterate_succ_apply', ih, LengthCounter.clock_eq]
    obtain ⟨_ | _, length, enabled⟩ := k
    · simp
    · have hreached : (0 < length ∧ length ≤ n + 1) ↔ (0 < length ∧ length ≤ n) ∨ length - n = 1 := by omega
      simp [hreached, Nat.sub_sub, Bool.and_assoc]

section
variable {k l : LengthCounter}

/-- Four clocks of a counter that runs, and of one that does not. -/
theorem LengthCounter.running_of_eq (hl : l = LengthCounter.clock^[4] k) (hen : k.lenEnable = true) :
    l.length = k.length - 4 ∧ l.enabled = (k.enabled && !decide (0 < k.length ∧ k.length ≤ 4)) := by
  rw [hl, LengthCounter.clock_iterate, hen, Bool.true_and]
  exact ⟨rfl, rfl⟩

theorem LengthCounter.stopped_of_eq (hl : l = LengthCounter.clock^[4] k) (hen : k.lenEnable = false) :
    l.length = k.length ∧ l.enabled = k.enabled := by
  rw [hl, LengthCounter.clock_iterate, hen, Bool.false_and, Bool.not_false, Bool.and_true]
  exact ⟨rfl, rfl⟩

end

def Square.counter (c : Square) : LengthCounter := ⟨c.lenEnable, c.length, c.enabled⟩

def Wave.counter (c : Wave) : LengthCounter := ⟨c.lenEnable, c.length, c.enabled⟩

def Noise.counter (c : Noise) : LengthCounter := ⟨c.lenEnable, c.length, c.enabled⟩

theorem Apu.sequencerClocks_state {a : Apu} (hp : a.power = true) (n : Nat) :
    (Apu.sequencerClocks n a).power = true ∧ (Apu.sequencerClocks n a).fsStep = a.fsStep + BitVec.ofNat 3 n := by
  induction n generalizing a with
  | zero => exact ⟨hp, (BitVec.add_zero _).symm⟩
  | succ n ih =>
    have hclock := Apu.sequencerClock_of_power hp
    have hnext : a.sequencerClock.power = true := by
      rw [hclock]
      exact a.sequencerAction_power.trans hp
    obtain ⟨hpower, hstep⟩ := ih hnext
    refine ⟨hpower, hstep.trans ?_⟩
    rw [hclock, BitVec.ofNat_add, BitVec.add_comm (BitVec.ofNat 3 n), ← BitVec.add_assoc]
    rfl

section
variable {α : Type} {R : Apu → α → Prop} {g : α → α}

/-- `R` relates the APU to something that the length clocks alone move, by `g`. -/
structure ClockedBy (R : Apu → α → Prop) (g : α → α) : Prop where
  length : ∀ a x, R a x → R a.lengthClock (g x)
  sweep : ∀ a x, R a x → R a.sweepClock x
  envelope : ∀ a x, R a x → R a.envelopeClock x
  step : ∀ a x k, R a x → R { a with fsStep := k } x

theorem ClockedBy.odd (h : ClockedBy R g) {a : Apu} {x : α} (hp : a.power = true) (hodd : a.fsStep.getLsbD 0 = true)
    (hr : R a x) : R a.sequencerClock x := by
  rw [Apu.sequencerClock_of_power hp]
  apply h.step
  rcases a.sequencerAction_cases with ⟨-, e | e⟩ | ⟨heven, -⟩
  · rwa [e]
  · exact e ▸ h.envelope a x hr
  · exact absurd (hodd.symm.trans heven) nofun

theorem ClockedBy.even (h : ClockedBy R g) {a : Apu} {x : α} (hp : a.power = true)
    (heven : a.fsStep.getLsbD 0 = false) (hr : R a x) : R a.sequencerClock (g x) := by
  rw [Apu.sequencerClock_of_power hp]
  apply h.step
  rcases a.sequencerAction_cases with ⟨hodd, -⟩ | ⟨-, e | e⟩
  · exact absurd (hodd.symm.trans heven) nofun
  · exact e ▸ h.length a x hr
  · exact e ▸ h.sweep _ _ (h.length a x hr)

/-- Of two clocks in a row one is a length clock. -/
theorem ClockedBy.two (h : ClockedBy R g) {a : Apu} {x : α} (hp : a.power = true) (hr : R a x) :
    R a.sequencerClock.sequencerClock (g x) := by
  obtain ⟨hp', hstep⟩ := Apu.sequencerClocks_state hp 1
  have hflip : a.sequencerClock.fsStep.getLsbD 0 = !a.fsStep.getLsbD 0 := by
    refine (congrArg (BitVec.getLsbD · 0) hstep).trans ?_
    generalize a.fsStep = k
    revert k
    decide
  cases hk : a.fsStep.getLsbD 0 with
  | true => exact h.even hp' (by rw [hflip, hk]; rfl) (h.odd hp hk hr)
  | false => exact h.odd hp' (by rw [hflip, hk]; rfl) (h.even hp hk hr)

theorem ClockedBy.eight (h : ClockedBy R g) {a : Apu} {x : α} (hp : a.power = true) (hr : R a x) :
    R (Apu.sequencerClocks 8 a) (g^[4] x) := by
  have key (n : Nat) : ∀ a x, a.power = true → R a x → R (Apu.sequencerClocks (2 * n) a) (g^[n] x) := by
    induction n with
    | zero => exact fun _ _ _ hr => hr
    | succ n ih =>
      intro a x hp hr
      exact ih _ _ (Apu.sequencerClocks_state hp 2).1 (h.two hp hr)
  exact key 4 a x hp hr

end

/-- The length counter alone switches ch2 off (R482); the same holds of ch4, and all of ch3 moves with its counter. -/
theorem clockedBy_ch2 : ClockedBy (fun a k => a.ch2.counter = k) LengthCounter.clock where
  length _ _ h := congrArg LengthCounter.clock h
  sweep _ _ h := h
  envelope _ _ h := h
  step _ _ _ h := h

theorem clockedBy_ch3 : ClockedBy (fun a c => a.ch3 = c) Wave.lengthClock where
  length _ _ h := congrArg Wave.lengthClock h
  sweep _ _ h := h
  envelope _ _ h := h
  step _ _ _ h := h

theorem clockedBy_ch4 : ClockedBy (fun a k => a.ch4.counter = k) LengthCounter.clock where
  length _ _ h := congrArg LengthCounter.clock h
  sweep _ _ h := h
  envelope _ _ h := h
  step _ _ _ h := h

/-- The length counter alone switches ch1 off while the sweep does not calculate. -/
theorem clockedBy_ch1_idle : ClockedBy (fun a k => a.sweep.Idle ∧ a.ch1.counter = k) LengthCounter.clock where
  length _ _ h := ⟨h.1, congrArg LengthCounter.clock h.2⟩
  sweep a _ h := by
    obtain ⟨hidle, hcounter⟩ := h
    obtain ⟨henabled, hperiod⟩ := sweepClock_settings a.ch1 a.sweep
    constructor
    · show (sweepClock a.ch1 a.sweep).2.Idle
      unfold Sweep.Idle
      rwa [henabled, hperiod]
    · show (sweepClock a.ch1 a.sweep).1.counter = _
      rwa [sweepClock_of_idle hidle]
  envelope _ _ h := h
  step _ _ _ h := h

/-- The channel has the settings of the counter `k`, and is enabled only if `k` is: the sweep can have switched it off
besides. -/
def Square.Below (c : Square) (k : LengthCounter) : Prop :=
  c.lenEnable = k.lenEnable ∧ c.length = k.length ∧ (c.enabled = true → k.enabled = true)

theorem Square.Below.lengthClock {c : Square} {k : LengthCounter} (h : c.Below k) : c.lengthClock.Below k.clock := by
  obtain ⟨hen, hlen, hon⟩ := h
  have hc : c.lengthClock.counter = c.counter.clock := rfl
  rw [LengthCounter.clock_eq] at hc ⊢
  refine ⟨hen, ?_, fun hz => ?_⟩
  · rw [← hen, ← hlen]
    exact congrArg LengthCounter.length hc
  · have hz' := (congrArg LengthCounter.enabled hc).symm.trans hz
    rw [Bool.and_eq_true] at hz' ⊢
    obtain ⟨hcon, hrun⟩ := hz'
    exact ⟨hon hcon, hen ▸ hlen ▸ hrun⟩

theorem clockedBy_ch1 : ClockedBy (fun a k => a.ch1.Below k) LengthCounter.clock where
  length _ _ h := h.lengthClock
  sweep a k h := by
    obtain ⟨hen, hlen, hon⟩ := h
    obtain ⟨hon', -, -, hen', hlen'⟩ := sweepClock_sweptTo a.ch1 a.sweep
    exact ⟨hen'.trans hen, hlen'.trans hlen, hon ∘ hon'⟩
  envelope _ _ h := h
  step _ _ _ h := h

theorem Wave.lengthClock_iterate_counter (c : Wave) (n : Nat) :
    (Wave.lengthClock^[n] c).counter = LengthCounter.clock^[n] c.counter :=
  Function.Semiconj.iterate_right (f := Wave.counter) (ga := Wave.lengthClock) (gb := LengthCounter.clock)
    (fun _ => rfl) n c

theorem Wave.lengthClock_of_stopped {c : Wave} (h : c.lenEnable = false) : c.lengthClock = c := by
  have hkept : Machine.lengthClock c.lenEnable c.enabled c.length = (c.length, c.enabled) := by
    rw [Machine.lengthClock, h]
    rfl
  rw [Wave.lengthClock, hkept]

/-- Settles O47: each channel's counter after eight clocks is its counter after four length clocks. -/
theorem frameSequencer : Obligations.FrameSequencer := by
  intro a hp z
  obtain ⟨hpower, hstep⟩ := Apu.sequencerClocks_state hp 8
  obtain ⟨-, hlen1, hon1⟩ := clockedBy_ch1.eight (x := a.ch1.counter) hp ⟨rfl, rfl, id⟩
  have hoff1 (h : (LengthCounter.clock^[4] a.ch1.counter).enabled = false) : z.ch1.enabled = false := by
    cases hz : z.ch1.enabled with
    | false => rfl
    | true => exact absurd (h.symm.trans (hon1 hz)) nofun
  have h2 : z.ch2.counter = _ := clockedBy_ch2.eight hp rfl
  have h3 : z.ch3 = _ := clockedBy_ch3.eight hp rfl
  have h3' : z.ch3.counter = LengthCounter.clock^[4] a.ch3.counter := h3 ▸ a.ch3.lengthClock_iterate_counter 4
  have h4 : z.ch4.counter = _ := clockedBy_ch4.eight hp rfl
  refine ⟨hstep.trans (BitVec.add_zero _), hpower, fun hen => ?_, fun hen => ?_, fun hidle => ?_, fun hoff => hoff1 ?_,
    LengthCounter.running_of_eq h2, LengthCounter.stopped_of_eq h2, LengthCounter.running_of_eq h3',
    fun hen => ?_, LengthCounter.running_of_eq h4, LengthCounter.stopped_of_eq h4⟩
  · obtain ⟨hlen, hon⟩ := LengthCounter.running_of_eq (k := a.ch1.counter) rfl hen
    refine ⟨hlen1.trans hlen, fun hpos hle => hoff1 (hon.trans ?_)⟩
    rw [decide_eq_true ⟨hpos, hle⟩]
    exact Bool.and_false _
  · exact hlen1.trans (LengthCounter.stopped_of_eq (k := a.ch1.counter) rfl hen).1
  · obtain ⟨-, hcounter⟩ := clockedBy_ch1_idle.eight (x := a.ch1.counter) hp ⟨hidle, rfl⟩
    rw [LengthCounter.clock_iterate] at hcounter
    exact congrArg LengthCounter.enabled hcounter
  · rw [LengthCounter.clock_iterate]
    exact (congrArg (· && _) hoff).trans (Bool.false_and _)
  · exact h3.trans (Function.iterate_fixed (Wave.lengthClock_of_stopped hen) 4)

end Sys2Proof.Machine
end

section
/-! PROOFS. The cartridge (63_cartridge_mbc.md): the control registers and the windows of each controller, the latch of
the clock, and the snapshot of the battery RAM. -/

set_option Elab.async false

namespace Sys2Proof.Machine

/-! The cartridge on the bus (R63, R65). -/

theorem State.access_of_rom {a : Word} (h : a.toNat < 0x8000) (s : State) (v : Byte) :
    s.read8 a = s.cart.readRom a.toNat ∧ s.write8 a v = s.writeRomArea a v := by
  have hr : regionOf a = .rom := if_pos h
  unfold State.read8 State.readBus State.write8
  rw [hr]
  exact ⟨rfl, rfl⟩

theorem State.read8_of_rom {a : Word} (h : a.toNat < 0x8000) (s : State) : s.read8 a = s.cart.readRom a.toNat :=
  (State.access_of_rom h s 0).1

theorem regionOf_cartRam {a : Word} (h : 0xA000 ≤ a.toNat ∧ a.toNat < 0xC000) : regionOf a = .cartRam := by
  unfold regionOf
  iterate 2 rw [if_neg (by omega)]
  exact if_pos h.2

theorem State.read8_of_cartRam {a : Word} (h : 0xA000 ≤ a.toNat ∧ a.toNat < 0xC000) (s : State) :
    s.read8 a = s.cart.readRam a.toNat := by
  unfold State.read8 State.readBus
  rw [regionOf_cartRam h]

theorem State.write8_of_cartRam {a : Word} (h : 0xA000 ≤ a.toNat ∧ a.toNat < 0xC000) (s : State) (v : Byte) :
    s.write8 a v = s.setCart (s.cart.writeRam a.toNat v) := by
  unfold State.write8
  rw [regionOf_cartRam h]

/-- Only a write of 1 to `6000–7FFF` of an MBC3 with a clock latches (R547). -/
theorem Cart.latches_iff (c : Cart) (a : Nat) (v : Byte) : c.latches a v = true ↔
    c.kind = .mbc3 ∧ 0x6000 ≤ a ∧ a < 0x8000 ∧ c.rtcLatchPrev = 0 ∧ v = 1 ∧ c.hasRtc = true := by
  simp only [Cart.latches, Bool.and_eq_true, beq_iff_eq, decide_eq_true_eq, and_assoc]

theorem Cart.not_latches {c : Cart} {k : MbcKind} (hk : c.kind = k) (hne : k ≠ .mbc3) (a : Nat) (v : Byte) :
    ¬ c.latches a v = true := by
  rw [Cart.latches_iff, hk]
  exact fun hl => hne hl.1

/-- A write of `0000–7FFF` that does not latch the clock is one of the control registers alone. -/
theorem State.write8_control {s : State} {a : Word} {v : Byte} (h : a.toNat < 0x8000)
    (hl : ¬ s.cart.latches a.toNat v = true) :
    s.write8 a v = s.setCart (s.cart.writeControl a.toNat v (Config.rtcNow s.draws)) := by
  rw [(State.access_of_rom h s v).2, State.writeRomArea, if_neg hl]
  rfl

/-! The values that the control registers take (R531 to R534, R539, R544 to R546). -/

theorem lowBits_eq {n : Nat} (hn : n ≤ 8) (v : Byte) : v.extractLsb' 0 n = BitVec.ofNat n v.toNat := by
  rw [BitVec.ofNat_toNat, BitVec.setWidth_eq_extractLsb' hn]

theorem enablesRam_eq (v : Byte) : enablesRam v = decide (v.toNat % 16 = 0xA) := by
  rw [enablesRam, Bool.eq_iff_iff, beq_iff_eq, decide_eq_true_iff, ← BitVec.toNat_inj, BitVec.extractLsb'_toNat]
  rfl

theorem bankOrOne_lowBits {n : Nat} (hn : n ≤ 8) (v : Byte) :
    bankOrOne (v.extractLsb' 0 n) = if v.toNat % 2 ^ n = 0 then 1 else BitVec.ofNat n v.toNat := by
  have hzero : BitVec.ofNat n v.toNat = 0 ↔ v.toNat % 2 ^ n = 0 := by
    rw [← BitVec.toNat_inj, BitVec.toNat_ofNat]
    simp
  rw [lowBits_eq hn, bankOrOne]
  exact if_congr hzero rfl rfl

/-! The slots of the RAM window (R522, R525, R535, R540, R548). -/

section
variable {c : Cart} {a : Nat}

theorem Cart.access_absent (h : c.ramSlot a = .absent) (v : Byte) : c.readRam a = 0xFF ∧ c.writeRam a v = c := by
  unfold Cart.readRam Cart.writeRam
  rw [h]
  exact ⟨rfl, rfl⟩

theorem Cart.access_cell {i : Nat} (h : c.ramSlot a = .cell i) (v : Byte) :
    c.readRam a = Memory.read c.ram i ∧ c.writeRam a v = { c with ram := Memory.write c.ram i v } := by
  unfold Cart.readRam Cart.writeRam
  rw [h]
  exact ⟨rfl, rfl⟩

theorem Cart.access_nibble {i : Nat} (h : c.ramSlot a = .nibble i) (v : Byte) :
    c.readRam a = (0xF : BitVec 4) ++ (Memory.read c.ram i).extractLsb' 0 4 ∧
    c.writeRam a v = { c with ram := Memory.write c.ram i ((v.extractLsb' 0 4).setWidth 8) } := by
  unfold Cart.readRam Cart.writeRam
  rw [h]
  exact ⟨rfl, rfl⟩

theorem Cart.access_rtc {i : Nat} (h : c.ramSlot a = .rtc i) (v : Byte) :
    c.readRam a = c.rtc.get i ∧ c.writeRam a v = { c with rtc := c.rtc.set i v } := by
  unfold Cart.readRam Cart.writeRam
  rw [h]
  exact ⟨rfl, rfl⟩

/-- The bytes of RAM do not decide what the window shows. -/
theorem Cart.ramSlot_setRam (c : Cart) (m : List Host.Cell) (a : Nat) :
    Cart.ramSlot { c with ram := m } a = c.ramSlot a := rfl

theorem Cart.ramSlot_setRtc (c : Cart) (r : RtcRegs) (a : Nat) :
    Cart.ramSlot { c with rtc := r } a = c.ramSlot a := rfl

end

/-- A window that shows nothing. -/
theorem showsNoRam {s : State} (h : ∀ a, s.cart.ramSlot a = .absent) : ShowsNoRam s := by
  intro a v hlow hhigh
  obtain ⟨hread, hwrite⟩ := Cart.access_absent (h a.toNat) v
  rw [State.read8_of_cartRam ⟨hlow, hhigh⟩, State.write8_of_cartRam ⟨hlow, hhigh⟩, hwrite]
  exact ⟨hread, rfl⟩

/-- A window that shows RAM bank `r`: the cell of the bank's byte, or nothing when there is no RAM. -/
theorem showsRamBank {s : State} {r : Nat} (h : ∀ a, s.cart.ramSlot a = s.cart.ramCell r a) : ShowsRamBank s r := by
  intro a b v halow hahigh hblow hbhigh off
  refine ⟨fun hnone => ?_, fun hsome => ?_⟩
  · exact showsNoRam (fun x => (h x).trans (if_pos hnone)) a v halow hahigh
  · have hslot (x : Word) (hlow : 0xA000 ≤ x.toNat) (hhigh : x.toNat < 0xC000) :
        s.cart.ramSlot x.toNat = .cell (off x) := by
      have hoff : x.toNat % 0x2000 = x.toNat - 0xA000 := by omega
      rw [h, Cart.ramCell, if_neg hsome, hoff]
    obtain ⟨hread, hwrite⟩ := Cart.access_cell (hslot a halow hahigh) v
    have hreadb := (Cart.access_cell (hslot b hblow hbhigh) v).1
    rw [State.read8_of_cartRam ⟨halow, hahigh⟩, State.write8_of_cartRam ⟨halow, hahigh⟩,
      State.read8_of_cartRam ⟨hblow, hbhigh⟩, State.read8_of_cartRam ⟨hblow, hbhigh⟩, hwrite]
    refine ⟨hread, rfl, ?_⟩
    have hafter : Cart.ramSlot { s.cart with ram := Memory.write s.cart.ram (off a) v } b.toNat = .cell (off b) :=
      hslot b hblow hbhigh
    rw [State.setCart_cart, (Cart.access_cell hafter v).1, hreadb]
    split
    · next heq => rw [heq, Memory.read_write_same]
    · next hne => exact Memory.read_write_other _ v hne

/-! MBC1 (R530 to R535). -/

section
variable {c : Cart} (h : c.kind = .mbc1)
include h

theorem Cart.writeControl_mbc1 (a : Nat) (v : Byte) (now : RtcTime) : c.writeControl a v now = c.writeMbc1 a v := by
  unfold Cart.writeControl
  rw [h]

theorem Cart.readRom_mbc1 (a : Nat) :
    c.readRom a = Memory.read c.rom (c.bankOffset (if a < 0x4000 then c.lowBank1 else c.highBank1) a) := by
  unfold Cart.readRom Cart.romOffset
  rw [h]

theorem Cart.ramSlot_mbc1 (a : Nat) : c.ramSlot a =
    if c.ramEnable then c.ramCell (if c.mode then c.bankHi.toNat else 0) a else .absent := by
  unfold Cart.ramSlot
  rw [h]

end

/-- What the byte of a ROM bank stands at, in the low and in the high window (R522). -/
theorem Cart.bankOffset_low {a : Nat} (ha : a < 0x4000) (c : Cart) (b : Nat) :
    c.bankOffset b a = b % c.romBanks * 0x4000 + a := by
  rw [Cart.bankOffset, Nat.mod_eq_of_lt ha]

theorem Cart.bankOffset_high {a : Nat} (hlow : 0x4000 ≤ a) (hhigh : a < 0x8000) (c : Cart) (b : Nat) :
    c.bankOffset b a = b % c.romBanks * 0x4000 + (a - 0x4000) := by
  have hoff : a % 0x4000 = a - 0x4000 := by omega
  rw [Cart.bankOffset, hoff]

theorem State.write8_mbc1 {s : State} (hk : s.cart.kind = .mbc1) {a : Word} (ha : a.toNat < 0x8000) (v : Byte) :
    s.write8 a v = s.setCart (s.cart.writeMbc1 a.toNat v) := by
  rw [State.write8_control ha (Cart.not_latches hk nofun _ _), Cart.writeControl_mbc1 hk]

/-- Settles O48, by the ranges of the control registers and of the windows. -/
theorem mbc1Banking : Obligations.Mbc1Banking := by
  intro s a v hk t
  have hwrite (ha : a.toNat < 0x8000) : t = s.setCart (s.cart.writeMbc1 a.toNat v) := State.write8_mbc1 hk ha v
  refine ⟨fun ha => ?_, fun hlow hhigh => ?_, fun hlow hhigh => ?_, fun hlow hhigh => ?_, fun ha => ?_,
    fun hlow hhigh => ?_, fun hen => ?_, fun hoff => ?_⟩
  · rw [hwrite (by omega), Cart.writeMbc1, if_pos ha, enablesRam_eq]
    rfl
  · rw [hwrite (by omega), Cart.writeMbc1, if_neg (by omega), if_pos hhigh, bankOrOne_lowBits (by decide)]
    rfl
  · rw [hwrite (by omega), Cart.writeMbc1, if_neg (by omega), if_neg (by omega), if_pos hhigh,
      lowBits_eq (by decide)]
    rfl
  · rw [hwrite hhigh, Cart.writeMbc1, if_neg (by omega), if_neg (by omega), if_neg (by omega)]
    rfl
  · rw [State.read8_of_rom (by omega), Cart.readRom_mbc1 hk, if_pos ha, Cart.bankOffset_low ha, Cart.lowBank1,
      Nat.mul_comm s.cart.bankHi.toNat]
  · rw [State.read8_of_rom hhigh, Cart.readRom_mbc1 hk, if_neg (by omega), Cart.bankOffset_high hlow hhigh,
      Cart.highBank1, Nat.mul_comm s.cart.bankHi.toNat]
  · exact showsRamBank fun x => (Cart.ramSlot_mbc1 hk x).trans (if_pos hen)
  · exact showsNoRam fun x => (Cart.ramSlot_mbc1 hk x).trans (if_neg (hoff ▸ Bool.false_ne_true))

/-! No controller (R523 to R525). -/

section
variable {c : Cart} (h : c.kind = .noMbc)
include h

theorem Cart.readRom_noMbc (a : Nat) : c.readRom a = Memory.read c.rom a := by
  unfold Cart.readRom Cart.romOffset
  rw [h]

theorem Cart.writeControl_noMbc (a : Nat) (v : Byte) (now : RtcTime) : c.writeControl a v now = c := by
  unfold Cart.writeControl
  rw [h]

theorem Cart.ramSlot_noMbc (a : Nat) : c.ramSlot a = c.ramCell 0 a := by
  unfold Cart.ramSlot
  rw [h]

end

/-! MBC2 (R538 to R540). -/

section
variable {c : Cart} (h : c.kind = .mbc2)
include h

theorem Cart.readRom_mbc2 (a : Nat) :
    c.readRom a = Memory.read c.rom (if a < 0x4000 then a else c.bankOffset c.romBank2.toNat a) := by
  unfold Cart.readRom Cart.romOffset
  rw [h]

theorem Cart.writeControl_mbc2 (a : Nat) (v : Byte) (now : RtcTime) : c.writeControl a v now = c.writeMbc2 a v := by
  unfold Cart.writeControl
  rw [h]

theorem Cart.ramSlot_mbc2 (a : Nat) : c.ramSlot a = if c.ramEnable then .nibble (a % 0x200) else .absent := by
  unfold Cart.ramSlot
  rw [h]

end

theorem State.write8_mbc2 {s : State} (hk : s.cart.kind = .mbc2) {a : Word} (ha : a.toNat < 0x8000) (v : Byte) :
    s.write8 a v = s.setCart (s.cart.writeMbc2 a.toNat v) := by
  rw [State.write8_control ha (Cart.not_latches hk nofun _ _), Cart.writeControl_mbc2 hk]

/-- A nibble of the MBC2's RAM as it is read (R540). -/
theorem nibble_eq (x : Byte) : (0xF : BitVec 4) ++ x.extractLsb' 0 4 = BitVec.ofNat 8 (0xF0 + x.toNat % 16) := by
  apply BitVec.eq_of_toNat_eq
  simp only [toNat_append_eq, lowBits_eq (n := 4) (by decide), BitVec.ofNat_eq_ofNat, BitVec.toNat_ofNat]
  omega

theorem lowNibble_toNat (v : Byte) : ((v.extractLsb' 0 4).setWidth 8).toNat = v.toNat % 16 := by
  rw [BitVec.toNat_setWidth, BitVec.extractLsb'_toNat]
  omega

/-- The RAM window of an enabled MBC2: a nibble written reads back through every address of it, and no other. -/
theorem State.nibble_access {s : State} (hk : s.cart.kind = .mbc2) (hen : s.cart.ramEnable = true) {a b : Word}
    (ha : 0xA000 ≤ a.toNat ∧ a.toNat < 0xC000) (hb : 0xA000 ≤ b.toNat ∧ b.toNat < 0xC000) (v : Byte) :
    s.read8 a = BitVec.ofNat 8 (0xF0 + (Memory.read s.cart.ram (a.toNat % 512)).toNat % 16) ∧
    (s.write8 a v).read8 b =
      if b.toNat % 512 = a.toNat % 512 then BitVec.ofNat 8 (0xF0 + v.toNat % 16) else s.read8 b := by
  have hslot (x : Nat) : s.cart.ramSlot x = .nibble (x % 512) := (Cart.ramSlot_mbc2 hk x).trans (if_pos hen)
  have hread (x : Nat) : s.cart.readRam x = _ := (Cart.access_nibble (hslot x) v).1
  rw [State.read8_of_cartRam ha, State.read8_of_cartRam hb, State.write8_of_cartRam ha, State.read8_of_cartRam hb,
    hread, hread, (Cart.access_nibble (hslot a.toNat) v).2, State.setCart_cart]
  refine ⟨nibble_eq _, ?_⟩
  rw [(Cart.access_nibble ((Cart.ramSlot_setRam _ _ _).trans (hslot b.toNat)) v).1]
  split
  · next heq => rw [heq, Memory.read_write_same, nibble_eq, lowNibble_toNat, Nat.mod_mod]
  · next hne => rw [Memory.read_write_other _ _ hne]

/-! MBC3 (R543 to R548). -/

section
variable {c : Cart} (h : c.kind = .mbc3)
include h

theorem Cart.readRom_mbc3 (a : Nat) :
    c.readRom a = Memory.read c.rom (if a < 0x4000 then a else c.bankOffset c.romBank3.toNat a) := by
  unfold Cart.readRom Cart.romOffset
  rw [h]

theorem Cart.writeControl_mbc3 (a : Nat) (v : Byte) (now : RtcTime) :
    c.writeControl a v now = c.writeMbc3 a v now := by
  unfold Cart.writeControl
  rw [h]

theorem Cart.ramSlot_mbc3 (a : Nat) : c.ramSlot a = if c.ramEnable then c.slotMbc3 a else .absent := by
  unfold Cart.ramSlot
  rw [h]

end

/-- What the selector of the MBC3 shows (R548). -/
theorem Cart.slotMbc3_bank {c : Cart} (h : c.ramBankOrRtc.toNat ≤ 3) (a : Nat) :
    c.slotMbc3 a = c.ramCell c.ramBankOrRtc.toNat a := if_pos h

theorem Cart.slotMbc3_rtc {c : Cart} (hrtc : c.hasRtc = true) (hlow : 8 ≤ c.ramBankOrRtc.toNat)
    (hhigh : c.ramBankOrRtc.toNat ≤ 0xC) (a : Nat) : c.slotMbc3 a = .rtc (c.ramBankOrRtc.toNat - 8) := by
  rw [Cart.slotMbc3]
  exact (if_neg (by omega)).trans (if_pos ⟨hlow, hhigh, hrtc⟩)

theorem Cart.slotMbc3_absent {c : Cart} (h : (4 ≤ c.ramBankOrRtc.toNat ∧ c.ramBankOrRtc.toNat ≤ 7) ∨
    0xD ≤ c.ramBankOrRtc.toNat ∨ (8 ≤ c.ramBankOrRtc.toNat ∧ c.hasRtc = false)) (a : Nat) :
    c.slotMbc3 a = .absent := by
  rw [Cart.slotMbc3]
  refine (if_neg (by omega)).trans (if_neg fun ⟨hlow, hhigh, hrtc⟩ => ?_)
  rcases h with h | h | ⟨-, h⟩
  · omega
  · omega
  · exact absurd (h.symm.trans hrtc) nofun

/-- `RTCMASK[i]` (R548). -/
def rtcMask (i : Nat) : Byte :=
  match i with
  | 0 => 0x3F
  | 1 => 0x3F
  | 2 => 0x1F
  | 3 => 0xFF
  | _ => 0xC1

theorem RtcRegs.get_set_same (r : RtcRegs) (i : Nat) (v : Byte) : (r.set i v).get i = v &&& rtcMask i :=
  match i with
  | 0 | 1 | 2 | 3 | _ + 4 => rfl

/-- The RAM window of an enabled MBC3 with a clock register selected: every address is that register. -/
theorem State.rtc_access {s : State} {i : Nat} (hslot : ∀ x, s.cart.ramSlot x = .rtc i) {a b : Word}
    (ha : 0xA000 ≤ a.toNat ∧ a.toNat < 0xC000) (hb : 0xA000 ≤ b.toNat ∧ b.toNat < 0xC000) (v : Byte) :
    s.read8 a = s.cart.rtc.get i ∧ (s.write8 a v).read8 b = v &&& rtcMask i := by
  obtain ⟨hread, hwrite⟩ := Cart.access_rtc (hslot a.toNat) v
  rw [State.read8_of_cartRam ha, State.write8_of_cartRam ha, State.read8_of_cartRam hb, hwrite, State.setCart_cart,
    (Cart.access_rtc ((Cart.ramSlot_setRtc _ _ _).trans (hslot b.toNat)) v).1]
  exact ⟨hread, RtcRegs.get_set_same _ i v⟩

/-- A write of an MBC3's control registers, outside the latch of the clock. -/
theorem State.write8_mbc3 {s : State} (hk : s.cart.kind = .mbc3) {a : Word} (ha : a.toNat < 0x6000) (v : Byte) :
    s.write8 a v = s.setCart (s.cart.writeMbc3 a.toNat v (Config.rtcNow s.draws)) := by
  have hl : ¬ s.cart.latches a.toNat v = true := by
    rw [Cart.latches_iff]
    omega
  rw [State.write8_control (by omega) hl, Cart.writeControl_mbc3 hk]

/-- Settles O49: for each controller the ranges of its control registers, then its ROM windows, then its RAM window. -/
theorem mbc23Banking : Obligations.Mbc23Banking := by
  refine ⟨fun s hk => ⟨fun a v ha => ?_, ?_⟩, fun s hk => ?_, fun s hk => ?_⟩
  · rw [State.write8_control ha (Cart.not_latches hk nofun _ _), Cart.writeControl_noMbc hk, State.read8_of_rom ha,
      Cart.readRom_noMbc hk]
    exact ⟨rfl, rfl⟩
  · exact showsRamBank (Cart.ramSlot_noMbc hk)
  · refine ⟨fun a v ha => ⟨?_, ?_⟩, fun a v hlow hhigh => ⟨?_, ?_⟩, fun hen a b v ha1 ha2 hb1 hb2 => ?_, fun hoff => ?_⟩
    · rw [State.read8_of_rom (by omega), Cart.readRom_mbc2 hk, if_pos ha]
    · rw [State.write8_mbc2 hk (by omega), Cart.writeMbc2, if_pos ha, bankOrOne_lowBits (by decide), enablesRam_eq]
      show s.setCart (if a.getLsbD 8 = true then _ else _) = _
      split <;> rfl
    · rw [State.write8_mbc2 hk hhigh, Cart.writeMbc2, if_neg (by omega)]
      rfl
    · rw [State.read8_of_rom hhigh, Cart.readRom_mbc2 hk, if_neg (by omega), Cart.bankOffset_high hlow hhigh]
    · exact State.nibble_access hk hen ⟨ha1, ha2⟩ ⟨hb1, hb2⟩ v
    · exact showsNoRam fun x => (Cart.ramSlot_mbc2 hk x).trans (if_neg (hoff ▸ Bool.false_ne_true))
  · have hslot (hen : s.cart.ramEnable = true) (x : Nat) : s.cart.ramSlot x = s.cart.slotMbc3 x :=
      (Cart.ramSlot_mbc3 hk x).trans (if_pos hen)
    refine ⟨fun a v ha => ?_, fun a v hlow hhigh => ?_, fun a v hlow hhigh => ?_, fun a ha => ?_,
      fun a hlow hhigh => ?_, fun hen hsel => ?_, fun hen hrtc hlow hhigh a b v ha1 ha2 hb1 hb2 => ?_, fun hnone => ?_⟩
    · rw [State.write8_mbc3 hk (by omega), Cart.writeMbc3, if_pos ha, enablesRam_eq]
      rfl
    · rw [State.write8_mbc3 hk (by omega), Cart.writeMbc3, if_neg (by omega), if_pos hhigh,
        bankOrOne_lowBits (by decide)]
      rfl
    · rw [State.write8_mbc3 hk hhigh, Cart.writeMbc3, if_neg (by omega), if_neg (by omega), if_pos hhigh,
        lowBits_eq (by decide)]
      rfl
    · rw [State.read8_of_rom (by omega), Cart.readRom_mbc3 hk, if_pos ha]
    · rw [State.read8_of_rom hhigh, Cart.readRom_mbc3 hk, if_neg (by omega), Cart.bankOffset_high hlow hhigh]
    · exact showsRamBank fun x => (hslot hen x).trans (Cart.slotMbc3_bank hsel x)
    · have hclock (x : Nat) := (hslot hen x).trans (Cart.slotMbc3_rtc hrtc hlow hhigh x)
      obtain ⟨hread, hback⟩ := State.rtc_access hclock ⟨ha1, ha2⟩ ⟨hb1, hb2⟩ v
      rw [hread, hback]
      obtain h | h | h | h | h : s.cart.ramBankOrRtc.toNat = 8 ∨ s.cart.ramBankOrRtc.toNat = 9 ∨
          s.cart.ramBankOrRtc.toNat = 10 ∨ s.cart.ramBankOrRtc.toNat = 11 ∨ s.cart.ramBankOrRtc.toNat = 12 := by
        omega
      all_goals
        rw [h]
        exact ⟨rfl, rfl⟩
    · refine showsNoRam fun x => ?_
      rw [Cart.ramSlot_mbc3 hk]
      split
      · next hen => exact Cart.slotMbc3_absent (hnone.resolve_left fun hoff => absurd (hoff.symm.trans hen) nofun) x
      · rfl

/-! The latch of the clock (R547). -/

/-- A reading of the clock keeps its ranges in the registers, and its halt and carry bits are 0. -/
theorem RtcTime.regs_ranges (t : RtcTime) : (RtcTime.regs t).sec.toNat < 60 ∧ (RtcTime.regs t).min.toNat < 60 ∧
    (RtcTime.regs t).hour.toNat < 24 ∧ (RtcTime.regs t).dayHigh.toNat < 2 := by
  obtain ⟨sec, min, hour, day⟩ := t
  simp only [RtcTime.regs, BitVec.toNat_ofNat]
  omega

section
variable {c : Cart} {a : Nat} (ha : 0x6000 ≤ a)
include ha

theorem Cart.writeMbc3_latches {v : Byte} (hl : c.latches a v = true) (now : RtcTime) :
    c.writeMbc3 a v now = { c with rtc := RtcTime.regs now, rtcLatchPrev := v } := by
  rw [Cart.writeMbc3, if_neg (by omega), if_neg (by omega), if_neg (by omega), if_pos hl]

theorem Cart.writeMbc3_remembers {v : Byte} (hl : ¬ c.latches a v = true) (now : RtcTime) :
    c.writeMbc3 a v now = { c with rtcLatchPrev := v } := by
  rw [Cart.writeMbc3, if_neg (by omega), if_neg (by omega), if_neg (by omega), if_neg hl]

end

/-- A write of `6000–7FFF` that does not latch remembers its value. -/
theorem State.write8_remembers {s : State} (hk : s.cart.kind = .mbc3) {a : Word}
    (ha : 0x6000 ≤ a.toNat ∧ a.toNat < 0x8000) {v : Byte} (hl : ¬ s.cart.latches a.toNat v = true) :
    s.write8 a v = { s with cart := { s.cart with rtcLatchPrev := v } } := by
  rw [State.write8_control ha.2 hl, Cart.writeControl_mbc3 hk, Cart.writeMbc3_remembers ha.1 hl]
  rfl

/-- A write that latches draws the time. -/
theorem State.write8_latches {s : State} (hk : s.cart.kind = .mbc3) {a : Word}
    (ha : 0x6000 ≤ a.toNat ∧ a.toNat < 0x8000) {v : Byte} (hl : s.cart.latches a.toNat v = true) :
    (s.write8 a v).cart = { s.cart with rtc := RtcTime.regs (Config.rtcNow s.draws), rtcLatchPrev := v } := by
  rw [(State.access_of_rom ha.2 s v).2, State.writeRomArea, State.setDraws_cart, State.setCart_cart,
    Cart.writeControl_mbc3 hk, Cart.writeMbc3_latches ha.1 hl]

/-- Settles O50: the 0 is remembered, and the 1 after it latches. -/
theorem rtcLatch : Obligations.RtcLatch := by
  refine ⟨?_, fun s a v hk hrtc ha1 ha2 => ?_⟩
  · intro s a b hk hrtc ha1 ha2 hb1 hb2 t
    have hzero : ¬ s.cart.latches a.toNat 0 = true := by
      rw [Cart.latches_iff]
      exact fun ⟨_, _, _, _, h, _⟩ => absurd h (by decide)
    have hfirst := State.write8_remembers hk ⟨ha1, ha2⟩ hzero
    have hone : (s.write8 a 0).cart.latches b.toNat 1 = true := by
      rw [hfirst, Cart.latches_iff]
      exact ⟨hk, hb1, hb2, rfl, rfl, hrtc⟩
    have ht : t.cart = _ := State.write8_latches (by rw [hfirst]; exact hk) ⟨hb1, hb2⟩ hone
    rw [hfirst] at ht ⊢
    obtain ⟨hsec, hmin, hhour, hday⟩ := RtcTime.regs_ranges (Config.rtcNow s.draws)
    rw [ht]
    exact ⟨hsec, hmin, hhour, hday, rfl, rfl, rfl⟩
  · refine State.write8_remembers hk ⟨ha1, ha2⟩ fun hl => ?_
    rw [Cart.latches_iff, hrtc] at hl
    obtain ⟨-, -, -, -, -, hon⟩ := hl
    cases hon

/-! The battery RAM (R540, R555). -/

/-- The slots that the RAM window of a cartridge can show: an MBC2 has its 512 nibbles, every other controller the bytes
of its RAM. -/
def Cart.HasSlot (c : Cart) : RamSlot → Prop
  | .absent => True
  | .cell i => c.kind ≠ .mbc2 ∧ i < c.ramSize
  | .nibble i => c.kind = .mbc2 ∧ i < 512
  | .rtc _ => True

theorem Cart.hasSlot_ramCell {c : Cart} (hk : c.kind ≠ .mbc2) (r a : Nat) : c.HasSlot (c.ramCell r a) := by
  unfold Cart.ramCell
  split
  · trivial
  · next hsize => exact ⟨hk, Nat.mod_lt _ (Nat.pos_of_ne_zero hsize)⟩

theorem Cart.hasSlot_ramSlot (c : Cart) (a : Nat) : c.HasSlot (c.ramSlot a) := by
  cases hk : c.kind with
  | noMbc =>
    rw [Cart.ramSlot_noMbc hk]
    exact Cart.hasSlot_ramCell (hk ▸ nofun) 0 a
  | mbc1 =>
    rw [Cart.ramSlot_mbc1 hk]
    split
    · exact Cart.hasSlot_ramCell (hk ▸ nofun) _ a
    · trivial
  | mbc2 =>
    rw [Cart.ramSlot_mbc2 hk]
    split
    · exact ⟨hk, Nat.mod_lt _ (by decide)⟩
    · trivial
  | mbc3 =>
    rw [Cart.ramSlot_mbc3 hk]
    unfold Cart.slotMbc3
    dsimp only
    split_ifs
    · exact Cart.hasSlot_ramCell (hk ▸ nofun) _ a
    · trivial
    · trivial
    · trivial

/-- The window reads the same over two RAMs that agree on the slots the cartridge has. -/
theorem Cart.readRam_setRam {c : Cart} {m : List Host.Cell}
    (hcell : c.kind ≠ .mbc2 → ∀ i, i < c.ramSize → Memory.read m i = Memory.read c.ram i)
    (hnibble : c.kind = .mbc2 → ∀ i, i < 512 →
      (Memory.read m i).extractLsb' 0 4 = (Memory.read c.ram i).extractLsb' 0 4) (a : Nat) :
    Cart.readRam { c with ram := m } a = c.readRam a := by
  have hhas := c.hasSlot_ramSlot a
  unfold Cart.readRam
  rw [Cart.ramSlot_setRam]
  cases h : c.ramSlot a with
  | absent => rfl
  | cell i =>
    rw [h] at hhas
    exact hcell hhas.1 i hhas.2
  | nibble i =>
    rw [h] at hhas
    exact congrArg ((0xF : BitVec 4) ++ ·) (hnibble hhas.1 i hhas.2)
  | rtc i => rfl

theorem Memory.length_toBytes (m : List Host.Cell) (base n : Nat) : (Memory.toBytes m base n).length = n := by
  rw [Memory.toBytes, List.length_map, List.length_range]

theorem Memory.getD_toBytes (m : List Host.Cell) (base : Nat) {n i : Nat} (hi : i < n) :
    (Memory.toBytes m base n).getD i 0 = Memory.read m (base + i) := by
  simp [Memory.toBytes, hi]

/-- The bytes of a RAM, loaded from 0 on, read as the RAM. -/
theorem Memory.read_ofBytes_toBytes (m : List Host.Cell) {n i : Nat} (hi : i < n) :
    Memory.read (Memory.ofBytes 0 (Memory.toBytes m 0 n)) i = Memory.read m i := by
  have h := Memory.read_ofBytes 0 (Memory.toBytes m 0 n) i
  rwa [Memory.getD_toBytes m 0 hi, Nat.zero_add] at h

/-- What the battery image of an MBC2 keeps of a byte is its nibble (R540). -/
theorem nibble_of_image (x : Byte) : ((0xF0 ||| x) &&& 0x0F).extractLsb' 0 4 = x.extractLsb' 0 4 := by
  revert x
  decide

/-- The MBC2's image, loaded from 0 on, reads with the nibbles of the RAM. -/
theorem Memory.nibble_ofBytes_toBytes (m : List Host.Cell) {n i : Nat} (hi : i < n) :
    (Memory.read (Memory.ofBytes 0 (((Memory.toBytes m 0 n).map (0xF0 ||| ·)).map (· &&& 0x0F))) i).extractLsb' 0 4 =
      (Memory.read m i).extractLsb' 0 4 := by
  have h := Memory.read_ofBytes 0 (((Memory.toBytes m 0 n).map (0xF0 ||| ·)).map (· &&& 0x0F)) i
  have hbyte : (((Memory.toBytes m 0 n).map (0xF0 ||| ·)).map (· &&& 0x0F)).getD i 0 =
      (0xF0 ||| Memory.read m i) &&& 0x0F := by
    simp [Memory.toBytes, hi]
  rw [hbyte, Nat.zero_add] at h
  rw [h, nibble_of_image]

theorem State.snapshotSram_eq {s : State} (hb : s.cart.hasBattery = true) : s.snapshotSram =
    some (if s.cart.kind = .mbc2 then (Memory.toBytes s.cart.ram 0 s.cart.ramSize).map (fun b => 0xF0 ||| b)
      else Memory.toBytes s.cart.ram 0 s.cart.ramSize) := if_pos hb

theorem sramInit_eq (kind : MbcKind) {size : Nat} {bs : List Byte} (h : bs.length = size) :
    sramInit kind true size (some bs) =
      .ok (Memory.ofBytes 0 (if kind = .mbc2 then bs.map (fun b => b &&& 0x0F) else bs)) := by
  rw [sramInit, if_neg (not_not_intro h)]
  rfl

/-- Settles O51: the image holds each byte that the window can show, or on an MBC2 each nibble. -/
theorem batteryRoundTrip : Obligations.BatteryRoundTrip := by
  intro s hb hsize
  have hsnap := State.snapshotSram_eq hb
  by_cases hk : s.cart.kind = .mbc2
  · rw [if_pos hk] at hsnap
    have hlen : ((Memory.toBytes s.cart.ram 0 s.cart.ramSize).map (fun b => 0xF0 ||| b)).length = s.cart.ramSize := by
      rw [List.length_map, Memory.length_toBytes]
    refine ⟨_, _, hsnap, hlen, sramInit_eq _ hlen, fun a => ?_⟩
    rw [if_pos hk]
    exact Cart.readRam_setRam (fun hne => absurd hk hne)
      (fun _ i hi => Memory.nibble_ofBytes_toBytes _ (hsize hk ▸ hi)) a
  · rw [if_neg hk] at hsnap
    have hlen := Memory.length_toBytes s.cart.ram 0 s.cart.ramSize
    refine ⟨_, _, hsnap, hlen, sramInit_eq _ hlen, fun a => ?_⟩
    rw [if_neg hk]
    exact Cart.readRam_setRam (fun _ i hi => Memory.read_ofBytes_toBytes _ hi) (fun h => absurd h hk) a

end Sys2Proof.Machine
end

section
/-! PROOFS. Reset (70_reset_and_hazards.md): the CPU after reset, what the reset forgets, and the invariants that the
reset state meets. -/

set_option Elab.async false

namespace Sys2Proof.Machine

/-- Settles O52: the registers are those of R601, and with `IE` 0 nothing is pending. -/
theorem resetRegisters : Obligations.ResetRegisters := by
  intro k cart s
  refine ⟨rfl, ?_, rfl, rfl, rfl, rfl, rfl, rfl, rfl, rfl, rfl, rfl, rfl, rfl, rfl, rfl, rfl, rfl, rfl, rfl, ?_, ?_, ?_⟩
  · show Cpu.cold.f = 0xB0
    decide
  · exact (State.read8_ie s).trans (by decide : Irq.cold.readIe = 0)
  · show Irq.cold.iflag.getLsbD 0 = true
    decide
  · show Irq.cold.pending = false
    decide

/-- The controller at reset depends on the cartridge only through its ROM, its constants and its RAM (R607). -/
theorem Cart.resetController_congr {c d : Cart} (hsame : d.SameConstants c) (hram : c.ram = d.ram) :
    c.resetController = d.resetController := by
  obtain ⟨hrom, hkind, hbanks, hsize, hbattery, hrtc⟩ := hsame
  simp only [Cart.resetController, hrom, hkind, hbanks, hsize, hbattery, hrtc, hram]

/-- Settles O54: the reset state is that of the cartridge with its controller at reset. -/
theorem resetIsIdempotent : Obligations.ResetIsIdempotent := by
  intro k s t
  refine ⟨rfl, rfl, rfl, rfl, rfl, fun hrom hkind hbanks hsize hbattery hrtc hram hdraws => ?_⟩
  rw [State.hostReset, State.hostReset,
    Cart.resetController_congr ⟨hrom, hkind, hbanks, hsize, hbattery, hrtc⟩ hram, hdraws]

theorem Ppu.cold_consistent : Ppu.cold.Consistent := by
  refine ⟨?_, by decide, Nat.zero_le _, .nil⟩
  rw [Ppu.onSchedule_of_lcdOn (by decide)]
  decide

theorem Apu.cold_dacRule : Apu.cold.DacRule := by
  refine ⟨?_, nofun, nofun, nofun⟩
  unfold Square.DacRule
  decide

/-- The reset state meets the invariants of every step, for every cartridge with its RAM in canonical form. -/
theorem State.cold_invariants (k : SysclkReset) {cart : Cart} (hram : Memory.wf cart.ram)
    (hbanks : cart.romBankLo ≠ 0 ∧ cart.romBank2 ≠ 0 ∧ cart.romBank3 ≠ 0) :
    let s := State.cold k cart
    MemInv s ∧ PpuInv s ∧ TimerInv s ∧ DacInv s ∧ BankInv s ∧ CartRamInv s :=
  ⟨⟨Memory.wf_nil, nofun⟩, Ppu.cold_consistent, ⟨k.aligned, .inl rfl⟩, Apu.cold_dacRule, hbanks, hram⟩

/-- No bank register is 0 at reset (R520). -/
theorem Cart.resetController_banks (c : Cart) : c.resetController.romBankLo ≠ 0 ∧ c.resetController.romBank2 ≠ 0 ∧
    c.resetController.romBank3 ≠ 0 :=
  ⟨(by decide : (1 : BitVec 5) ≠ 0), (by decide : (1 : BitVec 4) ≠ 0), (by decide : (1 : BitVec 7) ≠ 0)⟩

/-- Settles O55; the blank cartridge has its controller at reset. -/
theorem resetInvariants : Obligations.ResetInvariants :=
  ⟨fun k cart hram => State.cold_invariants k hram cart.resetController_banks,
    State.cold_invariants Config.sysclkReset Memory.wf_nil Cart.blank.resetController_banks⟩

end Sys2Proof.Machine
end
